-- ==== Sys2Proof/Word.lean ====
section
/-!
DEFINITION. The word types of the HPD core (spec 00_scope.md R9): a byte, the 64-bit host word, the
10-bit child field of the tree ROM. All quantities are unsigned; there is no sign extension.
-/

namespace Sys2Proof

/-- A byte of IN or OUT, bit 7 its most significant bit (R9). -/
abbrev Byte := BitVec 8

/-- A 64-bit register: positions, lengths, `R_VAL`, `R_CNT`, `ARG` (R8, R34, R37). -/
abbrev Word64 := BitVec 64

/-- The index of an internal tree node (R122, R123): 0 to 255, the root is 0. -/
abbrev NodeId := BitVec 8

end Sys2Proof
end

