-- ==== Sys2Proof/Config.lean ====
section
/-!
DEFINITION. The parameters D00 fixes (spec 00_scope.md R7), hard-coded as R7 says. Nothing the spec
leaves open is a number here: IN and IN_LEN, its only open parameters (R8), stand in State. No rule
leaves a register or a result undefined, so there is no free value.
-/

namespace Sys2Proof.Config

/-- NSYM: symbols of the code table, values 0 to 256 (R7). -/
def nSym : Nat := 257

/-- EOS: the end-of-string symbol (R7). -/
def eos : Nat := 256

/-- MINLEN: shortest code length in bits (R7). -/
def minLen : Nat := 5

/-- MAXLEN: longest code length in bits (R7). -/
def maxLen : Nat := 30

/-- NMIN: smallest legal integer prefix size (R7, R185). -/
def nMin : Nat := 1

/-- NMAX: largest legal integer prefix size (R7, R185). -/
def nMax : Nat := 8

/-- STRN: prefix size of a string length (R7, R97). -/
def strN : Nat := 7

/-- The largest decodable integer, `2^VALW - 1` with VALW = 64 (R7, R183). -/
def valMax : Nat := 2 ^ 64 - 1

/-- PADMAX: longest legal padding in bits (R7, R146). -/
def padMax : Nat := 7

/-- NINT: internal nodes of the tree (R7, R120). -/
def nInt : Nat := 256

end Sys2Proof.Config
end

