-- ==== Sys2Proof/Syntax.lean ====
section
/-!
DEFINITION. The instructions of the HPD core: one constructor per row of spec/opcode_table.json. The six
commands (30_encoding.md R90, R91) are what the host writes to CMD; the 257 code words (R98, R99) are
what a BitReader context decodes from the bits of its view.
-/

namespace Sys2Proof

/-- One constructor per row of the opcode table. DECINT carries its field `n` (R90: any value 0 to 15
can be written, 1 to 8 are legal); the operand of DECHUF and BROPEN is the latch ARG, which is state;
a code word has no operand. -/
inductive Instr where
  /-- DECINT, CMD = 0x10 + n: decode one prefixed integer (R180). -/
  | decint (n : Nat)
  /-- DECSTR, CMD = 0x20: decode one string literal field (R162). -/
  | decstr
  /-- DECHUF, CMD = 0x30: decode ARG bytes as a Huffman body (R161). -/
  | dechuf
  /-- BROPEN, CMD = 0x40: open a BitReader over ARG bytes (R140). -/
  | bropen
  /-- RDSYM, CMD = 0x50: one readNext (R143). -/
  | rdsym
  /-- BRCLOSE, CMD = 0x60: discard the BitReader (R144). -/
  | brclose
  -- the code words of symbols 0 to 255 and of EOS (R99, R141, R145)
  | huf0 | huf1 | huf2 | huf3 | huf4 | huf5 | huf6 | huf7 | huf8 | huf9
  | huf10 | huf11 | huf12 | huf13 | huf14 | huf15 | huf16 | huf17 | huf18 | huf19
  | huf20 | huf21 | huf22 | huf23 | huf24 | huf25 | huf26 | huf27 | huf28 | huf29
  | huf30 | huf31 | huf32 | huf33 | huf34 | huf35 | huf36 | huf37 | huf38 | huf39
  | huf40 | huf41 | huf42 | huf43 | huf44 | huf45 | huf46 | huf47 | huf48 | huf49
  | huf50 | huf51 | huf52 | huf53 | huf54 | huf55 | huf56 | huf57 | huf58 | huf59
  | huf60 | huf61 | huf62 | huf63 | huf64 | huf65 | huf66 | huf67 | huf68 | huf69
  | huf70 | huf71 | huf72 | huf73 | huf74 | huf75 | huf76 | huf77 | huf78 | huf79
  | huf80 | huf81 | huf82 | huf83 | huf84 | huf85 | huf86 | huf87 | huf88 | huf89
  | huf90 | huf91 | huf92 | huf93 | huf94 | huf95 | huf96 | huf97 | huf98 | huf99
  | huf100 | huf101 | huf102 | huf103 | huf104 | huf105 | huf106 | huf107 | huf108 | huf109
  | huf110 | huf111 | huf112 | huf113 | huf114 | huf115 | huf116 | huf117 | huf118 | huf119
  | huf120 | huf121 | huf122 | huf123 | huf124 | huf125 | huf126 | huf127 | huf128 | huf129
  | huf130 | huf131 | huf132 | huf133 | huf134 | huf135 | huf136 | huf137 | huf138 | huf139
  | huf140 | huf141 | huf142 | huf143 | huf144 | huf145 | huf146 | huf147 | huf148 | huf149
  | huf150 | huf151 | huf152 | huf153 | huf154 | huf155 | huf156 | huf157 | huf158 | huf159
  | huf160 | huf161 | huf162 | huf163 | huf164 | huf165 | huf166 | huf167 | huf168 | huf169
  | huf170 | huf171 | huf172 | huf173 | huf174 | huf175 | huf176 | huf177 | huf178 | huf179
  | huf180 | huf181 | huf182 | huf183 | huf184 | huf185 | huf186 | huf187 | huf188 | huf189
  | huf190 | huf191 | huf192 | huf193 | huf194 | huf195 | huf196 | huf197 | huf198 | huf199
  | huf200 | huf201 | huf202 | huf203 | huf204 | huf205 | huf206 | huf207 | huf208 | huf209
  | huf210 | huf211 | huf212 | huf213 | huf214 | huf215 | huf216 | huf217 | huf218 | huf219
  | huf220 | huf221 | huf222 | huf223 | huf224 | huf225 | huf226 | huf227 | huf228 | huf229
  | huf230 | huf231 | huf232 | huf233 | huf234 | huf235 | huf236 | huf237 | huf238 | huf239
  | huf240 | huf241 | huf242 | huf243 | huf244 | huf245 | huf246 | huf247 | huf248 | huf249
  | huf250 | huf251 | huf252 | huf253 | huf254 | huf255 | hufEos
  deriving DecidableEq, Repr

end Sys2Proof
end

