-- ==== Sys2Proof/WellFormed.lean ====
section
/-!
DEFINITION. Well-formed instructions: the field `n` of DECINT has four bits (spec 30_encoding.md R90).
An illegal prefix size (0, 9 to 15) is well-formed: it is the legal command with an illegal operand
(R92, R185). No other row has an operand in its word.
-/

namespace Sys2Proof

/-- Every operand fits its field. -/
def Instr.wellFormed : Instr → Bool
  | .decint n => decide (n < 16)
  | .decstr | .dechuf | .bropen | .rdsym | .brclose => true
  | .huf0 | .huf1 | .huf2 | .huf3 | .huf4 | .huf5 | .huf6 | .huf7 | .huf8 | .huf9 => true
  | .huf10 | .huf11 | .huf12 | .huf13 | .huf14 | .huf15 | .huf16 | .huf17 | .huf18 | .huf19 => true
  | .huf20 | .huf21 | .huf22 | .huf23 | .huf24 | .huf25 | .huf26 | .huf27 | .huf28 | .huf29 => true
  | .huf30 | .huf31 | .huf32 | .huf33 | .huf34 | .huf35 | .huf36 | .huf37 | .huf38 | .huf39 => true
  | .huf40 | .huf41 | .huf42 | .huf43 | .huf44 | .huf45 | .huf46 | .huf47 | .huf48 | .huf49 => true
  | .huf50 | .huf51 | .huf52 | .huf53 | .huf54 | .huf55 | .huf56 | .huf57 | .huf58 | .huf59 => true
  | .huf60 | .huf61 | .huf62 | .huf63 | .huf64 | .huf65 | .huf66 | .huf67 | .huf68 | .huf69 => true
  | .huf70 | .huf71 | .huf72 | .huf73 | .huf74 | .huf75 | .huf76 | .huf77 | .huf78 | .huf79 => true
  | .huf80 | .huf81 | .huf82 | .huf83 | .huf84 | .huf85 | .huf86 | .huf87 | .huf88 | .huf89 => true
  | .huf90 | .huf91 | .huf92 | .huf93 | .huf94 | .huf95 | .huf96 | .huf97 | .huf98 | .huf99 => true
  | .huf100 | .huf101 | .huf102 | .huf103 | .huf104 | .huf105 | .huf106 | .huf107 | .huf108 | .huf109 => true
  | .huf110 | .huf111 | .huf112 | .huf113 | .huf114 | .huf115 | .huf116 | .huf117 | .huf118 | .huf119 => true
  | .huf120 | .huf121 | .huf122 | .huf123 | .huf124 | .huf125 | .huf126 | .huf127 | .huf128 | .huf129 => true
  | .huf130 | .huf131 | .huf132 | .huf133 | .huf134 | .huf135 | .huf136 | .huf137 | .huf138 | .huf139 => true
  | .huf140 | .huf141 | .huf142 | .huf143 | .huf144 | .huf145 | .huf146 | .huf147 | .huf148 | .huf149 => true
  | .huf150 | .huf151 | .huf152 | .huf153 | .huf154 | .huf155 | .huf156 | .huf157 | .huf158 | .huf159 => true
  | .huf160 | .huf161 | .huf162 | .huf163 | .huf164 | .huf165 | .huf166 | .huf167 | .huf168 | .huf169 => true
  | .huf170 | .huf171 | .huf172 | .huf173 | .huf174 | .huf175 | .huf176 | .huf177 | .huf178 | .huf179 => true
  | .huf180 | .huf181 | .huf182 | .huf183 | .huf184 | .huf185 | .huf186 | .huf187 | .huf188 | .huf189 => true
  | .huf190 | .huf191 | .huf192 | .huf193 | .huf194 | .huf195 | .huf196 | .huf197 | .huf198 | .huf199 => true
  | .huf200 | .huf201 | .huf202 | .huf203 | .huf204 | .huf205 | .huf206 | .huf207 | .huf208 | .huf209 => true
  | .huf210 | .huf211 | .huf212 | .huf213 | .huf214 | .huf215 | .huf216 | .huf217 | .huf218 | .huf219 => true
  | .huf220 | .huf221 | .huf222 | .huf223 | .huf224 | .huf225 | .huf226 | .huf227 | .huf228 | .huf229 => true
  | .huf230 | .huf231 | .huf232 | .huf233 | .huf234 | .huf235 | .huf236 | .huf237 | .huf238 | .huf239 => true
  | .huf240 | .huf241 | .huf242 | .huf243 | .huf244 | .huf245 | .huf246 | .huf247 | .huf248 | .huf249 => true
  | .huf250 | .huf251 | .huf252 | .huf253 | .huf254 | .huf255 | .hufEos => true

end Sys2Proof
end

