-- ==== Sys2Proof/Decode.lean ====
section
/-!
DEFINITION. Decoding and encoding (spec 30_encoding.md): the command word (R90 to R92), the Huffman code
(R98, R99, R101), and the writers of the data formats that the spec uses as test devices
(95_test_vectors.md L2.0). Bits leave a byte from bit 7 to bit 0 (20_memory.md R64).
-/

namespace Sys2Proof

/-! ### Bits -/

/-- The `n` low bits of `c`, most significant first (R9: the first bit of a code is on the left). -/
def codeBits : Nat → Nat → List Bool
  | 0, _ => []
  | n + 1, c => c.testBit n :: codeBits n c

/-- The bits of a byte in the order the BitReader consumes them: bit 7 first (R64). -/
def byteBits (b : Byte) : List Bool := codeBits 8 b.toNat

/-- A bit string read as a binary number, first bit most significant. -/
def bitsToNat (bs : List Bool) : Nat := bs.foldl (fun acc b => 2 * acc + b.toNat) 0

/-- Cuts a bit string into bytes, first bit = bit 7; bits beyond the last whole byte are dropped. -/
def packBytes : List Bool → List Byte
  | b7 :: b6 :: b5 :: b4 :: b3 :: b2 :: b1 :: b0 :: rest =>
    BitVec.ofNat 8 (bitsToNat [b7, b6, b5, b4, b3, b2, b1, b0]) :: packBytes rest
  | _ => []

/-! ### The code table -/

/-- One row of the code table: the instruction of the row, its symbol, its length in bits and the code as
a number of that many bits (R99). -/
structure HufRow where
  instr : Instr
  symbol : Nat
  length : Nat
  code : Nat
  deriving DecidableEq, Repr

/-- The code of the row, first bit first. -/
def HufRow.bits (r : HufRow) : List Bool := codeBits r.length r.code

/-- Rows 0 to 32 of the code table (spec 30_encoding.md section 3.7, R99). -/
def hufRows0 : List HufRow := [
  ⟨.huf0, 0, 13, 0x1ff8⟩, ⟨.huf1, 1, 23, 0x7fffd8⟩, ⟨.huf2, 2, 28, 0xfffffe2⟩,
  ⟨.huf3, 3, 28, 0xfffffe3⟩, ⟨.huf4, 4, 28, 0xfffffe4⟩, ⟨.huf5, 5, 28, 0xfffffe5⟩,
  ⟨.huf6, 6, 28, 0xfffffe6⟩, ⟨.huf7, 7, 28, 0xfffffe7⟩, ⟨.huf8, 8, 28, 0xfffffe8⟩,
  ⟨.huf9, 9, 24, 0xffffea⟩, ⟨.huf10, 10, 30, 0x3ffffffc⟩, ⟨.huf11, 11, 28, 0xfffffe9⟩,
  ⟨.huf12, 12, 28, 0xfffffea⟩, ⟨.huf13, 13, 30, 0x3ffffffd⟩, ⟨.huf14, 14, 28, 0xfffffeb⟩,
  ⟨.huf15, 15, 28, 0xfffffec⟩, ⟨.huf16, 16, 28, 0xfffffed⟩, ⟨.huf17, 17, 28, 0xfffffee⟩,
  ⟨.huf18, 18, 28, 0xfffffef⟩, ⟨.huf19, 19, 28, 0xffffff0⟩, ⟨.huf20, 20, 28, 0xffffff1⟩,
  ⟨.huf21, 21, 28, 0xffffff2⟩, ⟨.huf22, 22, 30, 0x3ffffffe⟩, ⟨.huf23, 23, 28, 0xffffff3⟩,
  ⟨.huf24, 24, 28, 0xffffff4⟩, ⟨.huf25, 25, 28, 0xffffff5⟩, ⟨.huf26, 26, 28, 0xffffff6⟩,
  ⟨.huf27, 27, 28, 0xffffff7⟩, ⟨.huf28, 28, 28, 0xffffff8⟩, ⟨.huf29, 29, 28, 0xffffff9⟩,
  ⟨.huf30, 30, 28, 0xffffffa⟩, ⟨.huf31, 31, 28, 0xffffffb⟩, ⟨.huf32, 32, 6, 0x14⟩]

/-- Rows 33 to 65 of the code table (spec 30_encoding.md section 3.7, R99). -/
def hufRows1 : List HufRow := [
  ⟨.huf33, 33, 10, 0x3f8⟩, ⟨.huf34, 34, 10, 0x3f9⟩, ⟨.huf35, 35, 12, 0xffa⟩,
  ⟨.huf36, 36, 13, 0x1ff9⟩, ⟨.huf37, 37, 6, 0x15⟩, ⟨.huf38, 38, 8, 0xf8⟩,
  ⟨.huf39, 39, 11, 0x7fa⟩, ⟨.huf40, 40, 10, 0x3fa⟩, ⟨.huf41, 41, 10, 0x3fb⟩,
  ⟨.huf42, 42, 8, 0xf9⟩, ⟨.huf43, 43, 11, 0x7fb⟩, ⟨.huf44, 44, 8, 0xfa⟩,
  ⟨.huf45, 45, 6, 0x16⟩, ⟨.huf46, 46, 6, 0x17⟩, ⟨.huf47, 47, 6, 0x18⟩,
  ⟨.huf48, 48, 5, 0x0⟩, ⟨.huf49, 49, 5, 0x1⟩, ⟨.huf50, 50, 5, 0x2⟩,
  ⟨.huf51, 51, 6, 0x19⟩, ⟨.huf52, 52, 6, 0x1a⟩, ⟨.huf53, 53, 6, 0x1b⟩,
  ⟨.huf54, 54, 6, 0x1c⟩, ⟨.huf55, 55, 6, 0x1d⟩, ⟨.huf56, 56, 6, 0x1e⟩,
  ⟨.huf57, 57, 6, 0x1f⟩, ⟨.huf58, 58, 7, 0x5c⟩, ⟨.huf59, 59, 8, 0xfb⟩,
  ⟨.huf60, 60, 15, 0x7ffc⟩, ⟨.huf61, 61, 6, 0x20⟩, ⟨.huf62, 62, 12, 0xffb⟩,
  ⟨.huf63, 63, 10, 0x3fc⟩, ⟨.huf64, 64, 13, 0x1ffa⟩, ⟨.huf65, 65, 6, 0x21⟩]

/-- Rows 66 to 98 of the code table (spec 30_encoding.md section 3.7, R99). -/
def hufRows2 : List HufRow := [
  ⟨.huf66, 66, 7, 0x5d⟩, ⟨.huf67, 67, 7, 0x5e⟩, ⟨.huf68, 68, 7, 0x5f⟩,
  ⟨.huf69, 69, 7, 0x60⟩, ⟨.huf70, 70, 7, 0x61⟩, ⟨.huf71, 71, 7, 0x62⟩,
  ⟨.huf72, 72, 7, 0x63⟩, ⟨.huf73, 73, 7, 0x64⟩, ⟨.huf74, 74, 7, 0x65⟩,
  ⟨.huf75, 75, 7, 0x66⟩, ⟨.huf76, 76, 7, 0x67⟩, ⟨.huf77, 77, 7, 0x68⟩,
  ⟨.huf78, 78, 7, 0x69⟩, ⟨.huf79, 79, 7, 0x6a⟩, ⟨.huf80, 80, 7, 0x6b⟩,
  ⟨.huf81, 81, 7, 0x6c⟩, ⟨.huf82, 82, 7, 0x6d⟩, ⟨.huf83, 83, 7, 0x6e⟩,
  ⟨.huf84, 84, 7, 0x6f⟩, ⟨.huf85, 85, 7, 0x70⟩, ⟨.huf86, 86, 7, 0x71⟩,
  ⟨.huf87, 87, 7, 0x72⟩, ⟨.huf88, 88, 8, 0xfc⟩, ⟨.huf89, 89, 7, 0x73⟩,
  ⟨.huf90, 90, 8, 0xfd⟩, ⟨.huf91, 91, 13, 0x1ffb⟩, ⟨.huf92, 92, 19, 0x7fff0⟩,
  ⟨.huf93, 93, 13, 0x1ffc⟩, ⟨.huf94, 94, 14, 0x3ffc⟩, ⟨.huf95, 95, 6, 0x22⟩,
  ⟨.huf96, 96, 15, 0x7ffd⟩, ⟨.huf97, 97, 5, 0x3⟩, ⟨.huf98, 98, 6, 0x23⟩]

/-- Rows 99 to 131 of the code table (spec 30_encoding.md section 3.7, R99). -/
def hufRows3 : List HufRow := [
  ⟨.huf99, 99, 5, 0x4⟩, ⟨.huf100, 100, 6, 0x24⟩, ⟨.huf101, 101, 5, 0x5⟩,
  ⟨.huf102, 102, 6, 0x25⟩, ⟨.huf103, 103, 6, 0x26⟩, ⟨.huf104, 104, 6, 0x27⟩,
  ⟨.huf105, 105, 5, 0x6⟩, ⟨.huf106, 106, 7, 0x74⟩, ⟨.huf107, 107, 7, 0x75⟩,
  ⟨.huf108, 108, 6, 0x28⟩, ⟨.huf109, 109, 6, 0x29⟩, ⟨.huf110, 110, 6, 0x2a⟩,
  ⟨.huf111, 111, 5, 0x7⟩, ⟨.huf112, 112, 6, 0x2b⟩, ⟨.huf113, 113, 7, 0x76⟩,
  ⟨.huf114, 114, 6, 0x2c⟩, ⟨.huf115, 115, 5, 0x8⟩, ⟨.huf116, 116, 5, 0x9⟩,
  ⟨.huf117, 117, 6, 0x2d⟩, ⟨.huf118, 118, 7, 0x77⟩, ⟨.huf119, 119, 7, 0x78⟩,
  ⟨.huf120, 120, 7, 0x79⟩, ⟨.huf121, 121, 7, 0x7a⟩, ⟨.huf122, 122, 7, 0x7b⟩,
  ⟨.huf123, 123, 15, 0x7ffe⟩, ⟨.huf124, 124, 11, 0x7fc⟩, ⟨.huf125, 125, 14, 0x3ffd⟩,
  ⟨.huf126, 126, 13, 0x1ffd⟩, ⟨.huf127, 127, 28, 0xffffffc⟩, ⟨.huf128, 128, 20, 0xfffe6⟩,
  ⟨.huf129, 129, 22, 0x3fffd2⟩, ⟨.huf130, 130, 20, 0xfffe7⟩, ⟨.huf131, 131, 20, 0xfffe8⟩]

/-- Rows 132 to 164 of the code table (spec 30_encoding.md section 3.7, R99). -/
def hufRows4 : List HufRow := [
  ⟨.huf132, 132, 22, 0x3fffd3⟩, ⟨.huf133, 133, 22, 0x3fffd4⟩, ⟨.huf134, 134, 22, 0x3fffd5⟩,
  ⟨.huf135, 135, 23, 0x7fffd9⟩, ⟨.huf136, 136, 22, 0x3fffd6⟩, ⟨.huf137, 137, 23, 0x7fffda⟩,
  ⟨.huf138, 138, 23, 0x7fffdb⟩, ⟨.huf139, 139, 23, 0x7fffdc⟩, ⟨.huf140, 140, 23, 0x7fffdd⟩,
  ⟨.huf141, 141, 23, 0x7fffde⟩, ⟨.huf142, 142, 24, 0xffffeb⟩, ⟨.huf143, 143, 23, 0x7fffdf⟩,
  ⟨.huf144, 144, 24, 0xffffec⟩, ⟨.huf145, 145, 24, 0xffffed⟩, ⟨.huf146, 146, 22, 0x3fffd7⟩,
  ⟨.huf147, 147, 23, 0x7fffe0⟩, ⟨.huf148, 148, 24, 0xffffee⟩, ⟨.huf149, 149, 23, 0x7fffe1⟩,
  ⟨.huf150, 150, 23, 0x7fffe2⟩, ⟨.huf151, 151, 23, 0x7fffe3⟩, ⟨.huf152, 152, 23, 0x7fffe4⟩,
  ⟨.huf153, 153, 21, 0x1fffdc⟩, ⟨.huf154, 154, 22, 0x3fffd8⟩, ⟨.huf155, 155, 23, 0x7fffe5⟩,
  ⟨.huf156, 156, 22, 0x3fffd9⟩, ⟨.huf157, 157, 23, 0x7fffe6⟩, ⟨.huf158, 158, 23, 0x7fffe7⟩,
  ⟨.huf159, 159, 24, 0xffffef⟩, ⟨.huf160, 160, 22, 0x3fffda⟩, ⟨.huf161, 161, 21, 0x1fffdd⟩,
  ⟨.huf162, 162, 20, 0xfffe9⟩, ⟨.huf163, 163, 22, 0x3fffdb⟩, ⟨.huf164, 164, 22, 0x3fffdc⟩]

/-- Rows 165 to 197 of the code table (spec 30_encoding.md section 3.7, R99). -/
def hufRows5 : List HufRow := [
  ⟨.huf165, 165, 23, 0x7fffe8⟩, ⟨.huf166, 166, 23, 0x7fffe9⟩, ⟨.huf167, 167, 21, 0x1fffde⟩,
  ⟨.huf168, 168, 23, 0x7fffea⟩, ⟨.huf169, 169, 22, 0x3fffdd⟩, ⟨.huf170, 170, 22, 0x3fffde⟩,
  ⟨.huf171, 171, 24, 0xfffff0⟩, ⟨.huf172, 172, 21, 0x1fffdf⟩, ⟨.huf173, 173, 22, 0x3fffdf⟩,
  ⟨.huf174, 174, 23, 0x7fffeb⟩, ⟨.huf175, 175, 23, 0x7fffec⟩, ⟨.huf176, 176, 21, 0x1fffe0⟩,
  ⟨.huf177, 177, 21, 0x1fffe1⟩, ⟨.huf178, 178, 22, 0x3fffe0⟩, ⟨.huf179, 179, 21, 0x1fffe2⟩,
  ⟨.huf180, 180, 23, 0x7fffed⟩, ⟨.huf181, 181, 22, 0x3fffe1⟩, ⟨.huf182, 182, 23, 0x7fffee⟩,
  ⟨.huf183, 183, 23, 0x7fffef⟩, ⟨.huf184, 184, 20, 0xfffea⟩, ⟨.huf185, 185, 22, 0x3fffe2⟩,
  ⟨.huf186, 186, 22, 0x3fffe3⟩, ⟨.huf187, 187, 22, 0x3fffe4⟩, ⟨.huf188, 188, 23, 0x7ffff0⟩,
  ⟨.huf189, 189, 22, 0x3fffe5⟩, ⟨.huf190, 190, 22, 0x3fffe6⟩, ⟨.huf191, 191, 23, 0x7ffff1⟩,
  ⟨.huf192, 192, 26, 0x3ffffe0⟩, ⟨.huf193, 193, 26, 0x3ffffe1⟩, ⟨.huf194, 194, 20, 0xfffeb⟩,
  ⟨.huf195, 195, 19, 0x7fff1⟩, ⟨.huf196, 196, 22, 0x3fffe7⟩, ⟨.huf197, 197, 23, 0x7ffff2⟩]

/-- Rows 198 to 230 of the code table (spec 30_encoding.md section 3.7, R99). -/
def hufRows6 : List HufRow := [
  ⟨.huf198, 198, 22, 0x3fffe8⟩, ⟨.huf199, 199, 25, 0x1ffffec⟩, ⟨.huf200, 200, 26, 0x3ffffe2⟩,
  ⟨.huf201, 201, 26, 0x3ffffe3⟩, ⟨.huf202, 202, 26, 0x3ffffe4⟩, ⟨.huf203, 203, 27, 0x7ffffde⟩,
  ⟨.huf204, 204, 27, 0x7ffffdf⟩, ⟨.huf205, 205, 26, 0x3ffffe5⟩, ⟨.huf206, 206, 24, 0xfffff1⟩,
  ⟨.huf207, 207, 25, 0x1ffffed⟩, ⟨.huf208, 208, 19, 0x7fff2⟩, ⟨.huf209, 209, 21, 0x1fffe3⟩,
  ⟨.huf210, 210, 26, 0x3ffffe6⟩, ⟨.huf211, 211, 27, 0x7ffffe0⟩, ⟨.huf212, 212, 27, 0x7ffffe1⟩,
  ⟨.huf213, 213, 26, 0x3ffffe7⟩, ⟨.huf214, 214, 27, 0x7ffffe2⟩, ⟨.huf215, 215, 24, 0xfffff2⟩,
  ⟨.huf216, 216, 21, 0x1fffe4⟩, ⟨.huf217, 217, 21, 0x1fffe5⟩, ⟨.huf218, 218, 26, 0x3ffffe8⟩,
  ⟨.huf219, 219, 26, 0x3ffffe9⟩, ⟨.huf220, 220, 28, 0xffffffd⟩, ⟨.huf221, 221, 27, 0x7ffffe3⟩,
  ⟨.huf222, 222, 27, 0x7ffffe4⟩, ⟨.huf223, 223, 27, 0x7ffffe5⟩, ⟨.huf224, 224, 20, 0xfffec⟩,
  ⟨.huf225, 225, 24, 0xfffff3⟩, ⟨.huf226, 226, 20, 0xfffed⟩, ⟨.huf227, 227, 21, 0x1fffe6⟩,
  ⟨.huf228, 228, 22, 0x3fffe9⟩, ⟨.huf229, 229, 21, 0x1fffe7⟩, ⟨.huf230, 230, 21, 0x1fffe8⟩]

/-- Rows 231 to 256 of the code table (spec 30_encoding.md section 3.7, R99). -/
def hufRows7 : List HufRow := [
  ⟨.huf231, 231, 23, 0x7ffff3⟩, ⟨.huf232, 232, 22, 0x3fffea⟩, ⟨.huf233, 233, 22, 0x3fffeb⟩,
  ⟨.huf234, 234, 25, 0x1ffffee⟩, ⟨.huf235, 235, 25, 0x1ffffef⟩, ⟨.huf236, 236, 24, 0xfffff4⟩,
  ⟨.huf237, 237, 24, 0xfffff5⟩, ⟨.huf238, 238, 26, 0x3ffffea⟩, ⟨.huf239, 239, 23, 0x7ffff4⟩,
  ⟨.huf240, 240, 26, 0x3ffffeb⟩, ⟨.huf241, 241, 27, 0x7ffffe6⟩, ⟨.huf242, 242, 26, 0x3ffffec⟩,
  ⟨.huf243, 243, 26, 0x3ffffed⟩, ⟨.huf244, 244, 27, 0x7ffffe7⟩, ⟨.huf245, 245, 27, 0x7ffffe8⟩,
  ⟨.huf246, 246, 27, 0x7ffffe9⟩, ⟨.huf247, 247, 27, 0x7ffffea⟩, ⟨.huf248, 248, 27, 0x7ffffeb⟩,
  ⟨.huf249, 249, 28, 0xffffffe⟩, ⟨.huf250, 250, 27, 0x7ffffec⟩, ⟨.huf251, 251, 27, 0x7ffffed⟩,
  ⟨.huf252, 252, 27, 0x7ffffee⟩, ⟨.huf253, 253, 27, 0x7ffffef⟩, ⟨.huf254, 254, 27, 0x7fffff0⟩,
  ⟨.huf255, 255, 26, 0x3ffffee⟩, ⟨.hufEos, 256, 30, 0x3fffffff⟩]

/-- The code table: 257 rows in symbol order (R99). The one place the model holds it. -/
def hufRows : List HufRow :=
  hufRows0 ++ hufRows1 ++ hufRows2 ++ hufRows3 ++ hufRows4 ++ hufRows5 ++ hufRows6 ++ hufRows7

/-- The code of a symbol (R98); symbols above 256 have none. -/
def hufCode (symbol : Nat) : List Bool :=
  match hufRows[symbol]? with
  | some r => r.bits
  | none => []

/-! ### Decoding -/

/-- What an instruction is decoded from: a command word written to CMD (R90), or the next bits of a Huffman
body (R101). -/
inductive Encoding where
  | command (w : Byte)
  | code (bits : List Bool)
  deriving DecidableEq, Repr

/-- Why a word is no instruction. -/
inductive DecodeError where
  /-- `op` = 0x0 or 0x7 to 0xF (R92). -/
  | reservedOp
  /-- `n ≠ 0` with `op` = 0x2 to 0x6 (R92). -/
  | reservedOperand
  /-- The bits end before any code is complete (R101; with 30 bits or more this cannot happen, R98). -/
  | codeCutShort
  deriving DecidableEq, Repr

/-- Field `op`, bits 7:4 of a command word (R90). -/
def opField (w : Byte) : Nat := w.toNat / 16

/-- Field `n`, bits 3:0 of a command word (R90). -/
def nField (w : Byte) : Nat := w.toNat % 16

/-- A command without operand field: `n` must be 0 (R90, R92). -/
def plainCommand (w : Byte) (i : Instr) : Except DecodeError Instr :=
  if nField w = 0 then .ok i else .error .reservedOperand

/-- The command map (R91) and its reserved words (R92). -/
def decodeCommand (w : Byte) : Except DecodeError Instr :=
  match opField w with
  | 1 => .ok (.decint (nField w))
  | 2 => plainCommand w .decstr
  | 3 => plainCommand w .dechuf
  | 4 => plainCommand w .bropen
  | 5 => plainCommand w .rdsym
  | 6 => plainCommand w .brclose
  | _ => .error .reservedOp

/-- The code at the head of a bit string: the row whose code the string begins with, and the bits after it
(R101; at most one row fits, R98). -/
def decodeCode (bits : List Bool) : Option (HufRow × List Bool) :=
  match hufRows.find? (fun r => r.bits.isPrefixOf bits) with
  | some r => some (r, bits.drop r.length)
  | none => none

/-- Decoding, total on every word. -/
def decode : Encoding → Except DecodeError Instr
  | .command w => decodeCommand w
  | .code bits =>
    match decodeCode bits with
    | some (r, _) => .ok r.instr
    | none => .error .codeCutShort

/-- The 32-bit window of the opcode table's HUF rows as a bit string: the next bits of the stream, left
aligned, bit 31 first (R101). -/
def windowBits (w : Nat) : List Bool := codeBits 32 w

/-- The window a table word of `nbits` bits stands for: a word of 16 or 24 bits is the window's first bits,
the bits after them 0; a word that has bits above them is a whole window already. -/
def tableWindow (nbits w : Nat) : Nat := if w < 2 ^ nbits then w <<< (32 - nbits) else w

/-- A table word of one byte is a command word (format CMD), but for 0, which no CMD row matches and which is the window
of HUF_48; a longer one is a code window (format HUF). -/
def isCommandWord (nbits w : Nat) : Bool := decide (nbits ≤ 8) && decide (0 < w) && decide (w < 256)

/-- The instruction the decoder reads from a word of the opcode table: a CMD row is a command byte, a HUF
row a left-aligned window of the stream. -/
def decodeTableWord (nbits w : Nat) : Option Instr :=
  let e := if isCommandWord nbits w then Encoding.command (BitVec.ofNat 8 w)
    else Encoding.code (windowBits (tableWindow nbits w))
  match decode e with
  | .ok i => some i
  | .error _ => none

/-! ### Encoding -/

/-- The symbol of a code word (R99); a command has none. -/
def Instr.symbol? : Instr → Option Nat
  | .decint _ | .decstr | .dechuf | .bropen | .rdsym | .brclose => none
  | .huf0 => some 0 | .huf1 => some 1 | .huf2 => some 2 | .huf3 => some 3 | .huf4 => some 4
  | .huf5 => some 5 | .huf6 => some 6 | .huf7 => some 7 | .huf8 => some 8 | .huf9 => some 9
  | .huf10 => some 10 | .huf11 => some 11 | .huf12 => some 12 | .huf13 => some 13 | .huf14 => some 14
  | .huf15 => some 15 | .huf16 => some 16 | .huf17 => some 17 | .huf18 => some 18 | .huf19 => some 19
  | .huf20 => some 20 | .huf21 => some 21 | .huf22 => some 22 | .huf23 => some 23 | .huf24 => some 24
  | .huf25 => some 25 | .huf26 => some 26 | .huf27 => some 27 | .huf28 => some 28 | .huf29 => some 29
  | .huf30 => some 30 | .huf31 => some 31 | .huf32 => some 32 | .huf33 => some 33 | .huf34 => some 34
  | .huf35 => some 35 | .huf36 => some 36 | .huf37 => some 37 | .huf38 => some 38 | .huf39 => some 39
  | .huf40 => some 40 | .huf41 => some 41 | .huf42 => some 42 | .huf43 => some 43 | .huf44 => some 44
  | .huf45 => some 45 | .huf46 => some 46 | .huf47 => some 47 | .huf48 => some 48 | .huf49 => some 49
  | .huf50 => some 50 | .huf51 => some 51 | .huf52 => some 52 | .huf53 => some 53 | .huf54 => some 54
  | .huf55 => some 55 | .huf56 => some 56 | .huf57 => some 57 | .huf58 => some 58 | .huf59 => some 59
  | .huf60 => some 60 | .huf61 => some 61 | .huf62 => some 62 | .huf63 => some 63 | .huf64 => some 64
  | .huf65 => some 65 | .huf66 => some 66 | .huf67 => some 67 | .huf68 => some 68 | .huf69 => some 69
  | .huf70 => some 70 | .huf71 => some 71 | .huf72 => some 72 | .huf73 => some 73 | .huf74 => some 74
  | .huf75 => some 75 | .huf76 => some 76 | .huf77 => some 77 | .huf78 => some 78 | .huf79 => some 79
  | .huf80 => some 80 | .huf81 => some 81 | .huf82 => some 82 | .huf83 => some 83 | .huf84 => some 84
  | .huf85 => some 85 | .huf86 => some 86 | .huf87 => some 87 | .huf88 => some 88 | .huf89 => some 89
  | .huf90 => some 90 | .huf91 => some 91 | .huf92 => some 92 | .huf93 => some 93 | .huf94 => some 94
  | .huf95 => some 95 | .huf96 => some 96 | .huf97 => some 97 | .huf98 => some 98 | .huf99 => some 99
  | .huf100 => some 100 | .huf101 => some 101 | .huf102 => some 102 | .huf103 => some 103 | .huf104 => some 104
  | .huf105 => some 105 | .huf106 => some 106 | .huf107 => some 107 | .huf108 => some 108 | .huf109 => some 109
  | .huf110 => some 110 | .huf111 => some 111 | .huf112 => some 112 | .huf113 => some 113 | .huf114 => some 114
  | .huf115 => some 115 | .huf116 => some 116 | .huf117 => some 117 | .huf118 => some 118 | .huf119 => some 119
  | .huf120 => some 120 | .huf121 => some 121 | .huf122 => some 122 | .huf123 => some 123 | .huf124 => some 124
  | .huf125 => some 125 | .huf126 => some 126 | .huf127 => some 127 | .huf128 => some 128 | .huf129 => some 129
  | .huf130 => some 130 | .huf131 => some 131 | .huf132 => some 132 | .huf133 => some 133 | .huf134 => some 134
  | .huf135 => some 135 | .huf136 => some 136 | .huf137 => some 137 | .huf138 => some 138 | .huf139 => some 139
  | .huf140 => some 140 | .huf141 => some 141 | .huf142 => some 142 | .huf143 => some 143 | .huf144 => some 144
  | .huf145 => some 145 | .huf146 => some 146 | .huf147 => some 147 | .huf148 => some 148 | .huf149 => some 149
  | .huf150 => some 150 | .huf151 => some 151 | .huf152 => some 152 | .huf153 => some 153 | .huf154 => some 154
  | .huf155 => some 155 | .huf156 => some 156 | .huf157 => some 157 | .huf158 => some 158 | .huf159 => some 159
  | .huf160 => some 160 | .huf161 => some 161 | .huf162 => some 162 | .huf163 => some 163 | .huf164 => some 164
  | .huf165 => some 165 | .huf166 => some 166 | .huf167 => some 167 | .huf168 => some 168 | .huf169 => some 169
  | .huf170 => some 170 | .huf171 => some 171 | .huf172 => some 172 | .huf173 => some 173 | .huf174 => some 174
  | .huf175 => some 175 | .huf176 => some 176 | .huf177 => some 177 | .huf178 => some 178 | .huf179 => some 179
  | .huf180 => some 180 | .huf181 => some 181 | .huf182 => some 182 | .huf183 => some 183 | .huf184 => some 184
  | .huf185 => some 185 | .huf186 => some 186 | .huf187 => some 187 | .huf188 => some 188 | .huf189 => some 189
  | .huf190 => some 190 | .huf191 => some 191 | .huf192 => some 192 | .huf193 => some 193 | .huf194 => some 194
  | .huf195 => some 195 | .huf196 => some 196 | .huf197 => some 197 | .huf198 => some 198 | .huf199 => some 199
  | .huf200 => some 200 | .huf201 => some 201 | .huf202 => some 202 | .huf203 => some 203 | .huf204 => some 204
  | .huf205 => some 205 | .huf206 => some 206 | .huf207 => some 207 | .huf208 => some 208 | .huf209 => some 209
  | .huf210 => some 210 | .huf211 => some 211 | .huf212 => some 212 | .huf213 => some 213 | .huf214 => some 214
  | .huf215 => some 215 | .huf216 => some 216 | .huf217 => some 217 | .huf218 => some 218 | .huf219 => some 219
  | .huf220 => some 220 | .huf221 => some 221 | .huf222 => some 222 | .huf223 => some 223 | .huf224 => some 224
  | .huf225 => some 225 | .huf226 => some 226 | .huf227 => some 227 | .huf228 => some 228 | .huf229 => some 229
  | .huf230 => some 230 | .huf231 => some 231 | .huf232 => some 232 | .huf233 => some 233 | .huf234 => some 234
  | .huf235 => some 235 | .huf236 => some 236 | .huf237 => some 237 | .huf238 => some 238 | .huf239 => some 239
  | .huf240 => some 240 | .huf241 => some 241 | .huf242 => some 242 | .huf243 => some 243 | .huf244 => some 244
  | .huf245 => some 245 | .huf246 => some 246 | .huf247 => some 247 | .huf248 => some 248 | .huf249 => some 249
  | .huf250 => some 250 | .huf251 => some 251 | .huf252 => some 252 | .huf253 => some 253 | .huf254 => some 254
  | .huf255 => some 255 | .hufEos => some 256

/-- Whether the instruction is one of the six commands of R91. -/
def Instr.isCommand (i : Instr) : Bool := i.symbol?.isNone

/-- The code bits of a code word (R99). -/
def encodeCode (i : Instr) : List Bool :=
  match i.symbol? with
  | some k => hufCode k
  | none => []

/-- The word of an instruction: `op[7:4] n[3:0]` of a command (R90, R91), the code of a code word (R99). -/
def encode : Instr → Encoding
  | .decint n => .command (BitVec.ofNat 8 (0x10 + n))
  | .decstr => .command 0x20#8
  | .dechuf => .command 0x30#8
  | .bropen => .command 0x40#8
  | .rdsym => .command 0x50#8
  | .brclose => .command 0x60#8
  | i => .code (encodeCode i)

/-! ### Writers of the data formats (the reference encoders of 95_test_vectors.md L2.0; not hardware) -/

/-- The code bits of a byte string, first byte first (R100). -/
def stringBits (str : List Byte) : List Bool := str.flatMap (fun b => hufCode b.toNat)

/-- `Enc`: the codes of the bytes, padded with 0 to 7 one-bits to a byte boundary, cut into bytes. -/
def encodeString (str : List Byte) : List Byte :=
  let bits := stringBits str
  packBytes (bits ++ List.replicate ((8 - bits.length % 8) % 8) true)

/-- The continuation bytes of the remainder `r`, least significant group first (R65, R94), at most
`fuel + 1` of them. -/
def continuationBytes : Nat → Nat → List Byte
  | 0, r => [BitVec.ofNat 8 (r % 128)]
  | fuel + 1, r =>
    if r < 128 then [BitVec.ofNat 8 r]
    else BitVec.ofNat 8 (128 + r % 128) :: continuationBytes fuel (r / 128)

/-- `IEnc`: the shortest form of `v` with a prefix of `n` bits, `hi` giving bits 7:n of the first byte (R93
to R95, R187). -/
def encodeInteger (v n : Nat) (hi : Byte) : List Byte :=
  let full := 2 ^ n - 1
  if v < full then [hi ||| BitVec.ofNat 8 v]
  else (hi ||| BitVec.ofNat 8 full) :: continuationBytes 9 (v - full)

end Sys2Proof
end

