-- ==== Sys2Proof/Machine/State.lean ====
section
/-!
DEFINITION. The state of one HPD core as plain data (spec 10_state.md R20 to R39), with the input it reads and the
host's pending actions (log entries 1 and 3), the reasons a step can stop, and the state after reset.
-/

namespace Sys2Proof.Machine

/-- `R_KIND`: the kind of the last result (R34). Codes 6 and 7 never occur and have no constructor. -/
inductive ResultKind where
  | none
  | value
  | string
  | symbol
  /-- END: a clean end of the view. -/
  | streamEnd
  | error
  deriving DecidableEq, Repr

/-- `cause`: which condition raised MalformedEncoding (R35, R201). Codes 9 to 15 never occur and have no
constructor. -/
inductive Cause where
  | none
  | intTruncated
  | intOverflow
  | badPrefixSize
  | strTruncated
  | hufBadTail
  | hufEos
  | illegalCommand
  | hufBound
  deriving DecidableEq, Repr

/-- The input space IN (R60): `len` is IN_LEN, a number below 2^64 (R8); `cells` lists, by rising address, the
bytes that are not 0; an address below `len` without a cell holds 0 (log entry 4). -/
structure Memory where
  len : Word64
  cells : List Host.Cell
  deriving DecidableEq, Repr

/-- The read-only host registers (R37). -/
inductive ReadOnlyReg where
  | status
  | rVal
  | rCnt
  | olen
  | pos
  | lim
  deriving DecidableEq, Repr

/-- What the host can do between commands (R37, R230, R231). Reads change nothing and are functions of the
state (`hostRead`, `hostReadOut`). -/
inductive HostAction where
  /-- Write the 8-bit command word to CMD: the write starts the command. -/
  | writeCmd (w : Byte)
  /-- Write the operand latch ARG. -/
  | writeArg (v : Word64)
  /-- Write a read-only register: ignored. -/
  | writeReadOnly (r : ReadOnlyReg) (v : Word64)
  /-- Assert and release reset with these input bytes presented. -/
  | reset (input : List Byte)
  deriving DecidableEq, Repr

/-- The state. The first sixteen fields are the registers of R20 and the latch ARG of R37; `inp` is the parameter
IN, IN_LEN of the spec's step relation (R8), which only a reset changes; `hostq` is the model's own list of the
host's pending actions, oldest first. `olen` is the length of `out` (R33) and not stored twice. -/
structure State where
  /-- Offset in IN of the next byte not yet pulled (R21). -/
  pos : Word64
  /-- Exclusive end of the view (R22). -/
  lim : Word64
  /-- `open`: a BitReader context exists (R23). -/
  isOpen : Bool
  /-- The partially consumed byte, 0 if none is pending (R25). -/
  cur : Byte
  /-- Marks the next bit of `cur` to consume; 0 if none remains (R26). -/
  mask : BitVec 8
  /-- The tree node reached by the tail bits (R27). -/
  node : NodeId
  /-- Bits consumed since the last completed symbol, saturating at 8 (R28). -/
  tail : BitVec 4
  /-- Every tail bit was a 1 (R29). -/
  ones : Bool
  /-- `H`: the Huffman flag of the string literal last started by DECSTR (R31). -/
  h : Bool
  /-- `OUT`: the decoded bytes (R33). -/
  out : List Byte
  rKind : ResultKind
  rVal : Word64
  rCnt : Word64
  /-- MalformedEncoding has been raised since the last reset (R35). -/
  err : Bool
  cause : Cause
  /-- The operand latch of DECHUF and BROPEN, owned by the host (R37). -/
  arg : Word64
  inp : Memory
  hostq : List HostAction
  deriving DecidableEq, Repr

/-- Reasons the machine stops. Both are for states that no run reaches; the hardware has no such stop. -/
inductive Fault where
  /-- IN is read at an offset at or above IN_LEN, where no byte exists (R60). Raised by `peek` and the raw copy, in
  states outside the invariant `pos ≤ lim ≤ IN_LEN` (R30) only. Safe: the model stops. Log entry 4. -/
  | noSuchInputByte
  /-- One readNext took more bits than the longest code has (R149). Raised by `readNext` in no state at all.
  Safe: the model stops. Log entry 8. -/
  | bitStepBound
  deriving DecidableEq, Repr

/-- Reasons the model gives no meaning. -/
inductive Refusal where
  /-- An instruction whose arm in `exec` has no meaning yet. Raised by no instruction of this model. Safe. -/
  | notModelled (mnemonic : String)
  /-- A reset presents 2^64 bytes or more: R8 requires IN_LEN < 2^64. Raised by the reset action. Safe. Log
  entry 9. -/
  | inputTooLong
  deriving DecidableEq, Repr

/-- The memory of the empty input: IN_LEN = 0. -/
def Memory.empty : Memory := { len := 0, cells := [] }

/-- The state after reset (R39), on the empty input and with no host action pending (log entries 2 and 3).
`lim = IN_LEN`, which is 0 here; `State.resetWith` is the same for any input. -/
def State.reset : State where
  pos := 0
  lim := 0
  isOpen := false
  cur := 0
  mask := 0
  node := 0
  tail := 0
  ones := true
  h := false
  out := []
  rKind := .none
  rVal := 0
  rCnt := 0
  err := false
  cause := .none
  arg := 0
  inp := Memory.empty
  hostq := []

end Sys2Proof.Machine
end

