-- ==== Sys2Proof/Machine/Flags.lean ====
section
/-!
DEFINITION. Flags and codes: the BitReader's `tail` and `ones` (spec 10_state.md R28, R29), the cursor `mask` (R26), the
test of a clean end (41_bitreader.md R146), the codes of R_KIND and cause (R34, 60_exceptions.md R201) and the STATUS
word (R37). There are no arithmetic condition codes (R32).
-/

namespace Sys2Proof.Machine

/-- `min(tail + 1, 8)` (R28). -/
def nextTail (t : BitVec 4) : BitVec 4 := BitVec.ofNat 4 (min (t.toNat + 1) 8)

/-- `ones AND b` (R29). -/
def nextOnes (ones b : Bool) : Bool := ones && b

/-- The highest remaining bit of the current byte (R64, R141). -/
def currentBit (cur : Byte) (mask : BitVec 8) : Bool := cur &&& mask != 0#8

/-- The cursor after one bit: `mask >> 1` (R26). -/
def nextMask (mask : BitVec 8) : BitVec 8 := mask >>> 1

/-- The current byte after one bit: 0 if none is pending (R25). -/
def nextCur (cur : Byte) (mask : BitVec 8) : Byte := if nextMask mask = 0#8 then 0#8 else cur

/-- The number of unconsumed bits of the current byte (R26): the position of the set bit plus one. -/
def unreadBits (mask : BitVec 8) : Nat := if mask = 0#8 then 0 else mask.toNat.log2 + 1

/-- The end of the view is a clean end: at most seven tail bits, all ones (R146). -/
def cleanEnd (s : State) : Bool := decide (s.tail.toNat ≤ 7) && s.ones

/-- The code of R_KIND (R34). -/
def ResultKind.code : ResultKind → BitVec 3
  | .none => 0
  | .value => 1
  | .string => 2
  | .symbol => 3
  | .streamEnd => 4
  | .error => 5

/-- The code of cause (R201). -/
def Cause.code : Cause → BitVec 4
  | .none => 0
  | .intTruncated => 1
  | .intOverflow => 2
  | .badPrefixSize => 3
  | .strTruncated => 4
  | .hufBadTail => 5
  | .hufEos => 6
  | .illegalCommand => 7
  | .hufBound => 8

/-- STATUS (R37): bit 0 `err`, 4:1 `cause`, 5 `open`, 6 `H`, 9:7 `R_KIND`, 15:10 zero. -/
def statusWord (s : State) : BitVec 16 :=
  0#6 ++ s.rKind.code ++ BitVec.ofBool s.h ++ BitVec.ofBool s.isOpen ++ s.cause.code ++ BitVec.ofBool s.err

end Sys2Proof.Machine
end

