-- ==== Sys2Proof/Machine/Operands.lean ====
section
/-!
DEFINITION. The operand forms and the fields of the data formats (spec 30_encoding.md R90, R93, R94, R97): the
prefix size N, the latch ARG, the prefix of an integer's first byte, the payload and flag of a continuation byte,
the Huffman flag.
-/

namespace Sys2Proof.Machine

/-- `byteLength`, the operand of DECHUF and BROPEN: ARG, read once when the command starts (R90, R37). -/
def byteLength (s : State) : Nat := s.arg.toNat

/-- `2^N - 1`, the all-ones prefix (R93, R181). -/
def fullPrefix (n : Nat) : Nat := 2 ^ n - 1

/-- The low N bits of an integer's first byte; bits 7:N are ignored (R93). -/
def prefixField (n : Nat) (b : Byte) : Nat := b.toNat % 2 ^ n

/-- The prefix sizes R185 makes legal. -/
def legalPrefixSize (n : Nat) : Bool := decide (Config.nMin ≤ n) && decide (n ≤ Config.nMax)

/-- Bits 6:0 of a continuation byte (R94). -/
def payload (b : Byte) : Nat := b.toNat % 128

/-- Bit 7 of a continuation byte: another one follows (R94). -/
def moreFlag (b : Byte) : Bool := b.getLsbD 7

/-- Bit 7 of a string field's first byte: the Huffman flag (R97, R31). -/
def huffmanFlag (b : Byte) : Bool := b.getLsbD 7

/-- The value of the continuation bytes from weight `128^k` up (R95). -/
def continuationValue : Nat → List Byte → Nat
  | _, [] => 0
  | k, b :: bs => payload b * 128 ^ k + continuationValue (k + 1) bs

/-- The upper bound on the bytes a Huffman body of `len` bytes decodes to, `floor(8 * len / 5)` (R165). -/
def outputBound (len : Nat) : Nat := 8 * len / Config.minLen

end Sys2Proof.Machine
end

