-- ==== Sys2Proof/Machine/Ops.lean ====
section
/-!
DEFINITION. The named operations every command is made of: the input space (spec 20_memory.md R60 to R63), the output
sequence (R68), the result registers (10_state.md R34), the error entry and the sticky refusal (60_exceptions.md R204,
R205), reset (R39, R230) and the host's registers (R37).
-/

namespace Sys2Proof.Machine

/-! ### The input space -/

/-- The byte at an address of a cell list; an address without a cell holds 0. -/
def cellAt (a : Nat) : List Host.Cell → Byte
  | [] => 0#8
  | (k, b) :: rest => if k = a then b else cellAt a rest

/-- `IN[a]`; no byte exists at or above IN_LEN (R60). -/
def Memory.read (m : Memory) (a : Nat) : Option Byte :=
  if a < m.len.toNat then some (cellAt a m.cells) else none

/-- Sets one address of a rising cell list, keeping it rising and free of 0 bytes. -/
def setCell (a : Nat) (b : Byte) : List Host.Cell → List Host.Cell
  | [] => if b = 0#8 then [] else [(a, b)]
  | (k, c) :: rest =>
    if k < a then (k, c) :: setCell a b rest
    else
      let tail := if k = a then rest else (k, c) :: rest
      if b = 0#8 then tail else (a, b) :: tail

/-- The platform places one byte; an address at or above IN_LEN is not part of IN. The core never does this (R76). -/
def Memory.write (m : Memory) (a : Nat) (b : Byte) : Memory :=
  if a < m.len.toNat then { m with cells := setCell a b m.cells } else m

/-- The platform places consecutive bytes from address `a`. -/
def Memory.writeBytes (m : Memory) (a : Nat) : List Byte → Memory
  | [] => m
  | b :: bs => (m.write a b).writeBytes (a + 1) bs

/-- The platform presents at least `n` bytes: the new ones hold 0. -/
def Memory.extendTo (m : Memory) (n : Word64) : Memory :=
  if m.len.toNat < n.toNat then { m with len := n } else m

/-- The cells of a byte sequence that starts at address `a`. -/
def cellsFrom : Nat → List Byte → List Host.Cell
  | _, [] => []
  | a, b :: bs => if b = 0#8 then cellsFrom (a + 1) bs else (a, b) :: cellsFrom (a + 1) bs

/-- The input space holding exactly these bytes (R8, R231). -/
def Memory.ofBytes (bs : List Byte) : Memory :=
  { len := BitVec.ofNat 64 bs.length, cells := cellsFrom 0 bs }

/-- Addresses rise strictly from `lo` up, no listed byte is 0, every address is below `len`. -/
def cellsWf (len : Nat) : Nat → List Host.Cell → Bool
  | _, [] => true
  | lo, (k, b) :: rest => decide (lo ≤ k) && decide (k < len) && (b != 0#8) && cellsWf len (k + 1) rest

/-- The one canonical form of an input space. -/
def Memory.wf (m : Memory) : Bool := cellsWf m.len.toNat 0 m.cells

/-- The `n` bytes of IN from address `a`, as far as they exist. -/
def Memory.bytes (m : Memory) (a : Nat) : Nat → List Byte
  | 0 => []
  | n + 1 =>
    match m.read a with
    | some b => b :: m.bytes (a + 1) n
    | none => []

/-- What `Peek()` finds (R61). `missing` is an offset inside the view where IN has no byte: outside the invariant
`pos ≤ lim ≤ IN_LEN` (R30) only. -/
inductive Peeked where
  | endMarker
  | byte (b : Byte)
  | missing
  deriving DecidableEq, Repr

/-- `Peek()`: END_MARKER when `pos = lim`, the byte `IN[pos]` otherwise; it changes nothing (R61). -/
def State.peek (s : State) : Peeked :=
  if s.pos = s.lim then .endMarker
  else
    match s.inp.read s.pos.toNat with
    | some b => .byte b
    | none => .missing

/-- `Advance(n)`: `pos <- pos + n` (R62). Every caller has `pos + n ≤ lim`. -/
def State.advance (s : State) (n : Nat) : State := { s with pos := BitVec.ofNat 64 (s.pos.toNat + n) }

/-- `lim - pos`: bytes of the view not yet pulled (R30: it never underflows). -/
def State.bytesLeft (s : State) : Nat := s.lim.toNat - s.pos.toNat

/-- The bits of the view not yet consumed, in the order they will be (R63, R64): what is left of `cur`, then the bytes
from `pos` to `lim`. -/
def State.viewBits (s : State) : List Bool :=
  codeBits (unreadBits s.mask) s.cur.toNat ++ (s.inp.bytes s.pos.toNat s.bytesLeft).flatMap byteBits

/-! ### Procedures -/

/-- How a procedure of a command ends: with a value, by raising MalformedEncoding (R204), or stopped outside the
invariants. The state is the one at that point. -/
inductive Proc (α : Type) where
  | done (a : α) (s : State)
  | raised (c : Cause) (s : State)
  | fault (f : Fault)
  deriving DecidableEq, Repr

/-- Runs the next part of a command; a raise ends the command at once (R204). -/
def Proc.bind {α β : Type} (p : Proc α) (k : α → State → Proc β) : Proc β :=
  match p with
  | .done a s => k a s
  | .raised c s => .raised c s
  | .fault f => .fault f

/-! ### Output and results -/

/-- `OutAppend(v)` (R68). -/
def State.outAppend (s : State) (v : Byte) : State := { s with out := s.out ++ [v] }

/-- `OUT <- []` (R33). -/
def State.clearOut (s : State) : State := { s with out := [] }

/-- `H <- flag` (R31). -/
def State.setH (s : State) (flag : Bool) : State := { s with h := flag }

/-- Writes the three result registers (R34). -/
def State.setResult (s : State) (kind : ResultKind) (val cnt : Nat) : State :=
  { s with rKind := kind, rVal := BitVec.ofNat 64 val, rCnt := BitVec.ofNat 64 cnt }

/-- `olen` (R33). -/
def State.olen (s : State) : Word64 := BitVec.ofNat 64 s.out.length

/-! ### The error: entry, stickiness, and the only way back -/

/-- Error entry, `raise MalformedEncoding(c)` (R204): `err`, `cause`, the result ERROR, OUT emptied; every other
register keeps its value. -/
def State.raiseError (s : State) (c : Cause) : State :=
  ({ s with err := true, cause := c }.setResult .error 0 0).clearOut

/-- A command issued while `err = 1` (R205): only the result registers change. -/
def State.refuseCommand (s : State) : State := s.setResult .error 0 0

/-- There is no return from the error (R207); reset is the only way to `err = 0`. The state after a reset that presents
`input` (R39, R230, R231); what the host still has pending is the host's and stays. -/
def State.resetWith (input : List Byte) (pending : List HostAction) : State :=
  { State.reset with
    lim := BitVec.ofNat 64 input.length, inp := Memory.ofBytes input, hostq := pending }

/-- The first thing every command does is test `err` (R205). -/
def unlessError (body : State → Host.Outcome State Fault Refusal) (s : State) : Host.Outcome State Fault Refusal :=
  if s.err then .next s.refuseCommand else body s

/-- Ends a command: the result on success, the error entry on a raise (R204). -/
def Proc.commit {α : Type} (p : Proc α) (finish : α → State → State) : Host.Outcome State Fault Refusal :=
  match p with
  | .done a s => .next (finish a s)
  | .raised c s => .next (s.raiseError c)
  | .fault f => .fault f

/-- A reserved command word (R92): refused while `err = 1`, else ILLEGAL_COMMAND; it consumes no input. -/
def execReserved (s : State) : Host.Outcome State Fault Refusal :=
  unlessError (fun s => .next (s.raiseError .illegalCommand)) s

/-! ### Host registers -/

/-- The eight host registers (R37). -/
inductive HostReg where
  | cmd
  | arg
  | readOnly (r : ReadOnlyReg)
  deriving DecidableEq, Repr

/-- The number of a host register (R37). -/
def HostReg.number : HostReg → BitVec 3
  | .cmd => 0
  | .arg => 1
  | .readOnly .status => 2
  | .readOnly .rVal => 3
  | .readOnly .rCnt => 4
  | .readOnly .olen => 5
  | .readOnly .pos => 6
  | .readOnly .lim => 7

/-- The content a host read of a register finds, zero-extended to 64 bits; CMD reads as 0 (R37). -/
def hostRead (s : State) : HostReg → Word64
  | .cmd => 0
  | .arg => s.arg
  | .readOnly .status => (statusWord s).setWidth 64
  | .readOnly .rVal => s.rVal
  | .readOnly .rCnt => s.rCnt
  | .readOnly .olen => s.olen
  | .readOnly .pos => s.pos
  | .readOnly .lim => s.lim

/-- `OUT[i]` for `i < olen`; nothing beyond (R37, R232 H7). -/
def hostReadOut (s : State) (i : Nat) : Option Byte := s.out[i]?

/-- The host writes the latch ARG (R37). -/
def State.setArg (s : State) (v : Word64) : State := { s with arg := v }

/-- What the host still has pending. -/
def State.withQueue (s : State) (q : List HostAction) : State := { s with hostq := q }

/-! ### Placing an instruction for the next step -/

/-- Makes `w` the command word the host writes next. -/
def State.withCommand (s : State) (w : Byte) : State := s.withQueue (.writeCmd w :: s.hostq)

/-- Presents the four bytes of a code window at `pos`, inside a fresh context of those four bytes, and makes RDSYM
the next command, so that the next step reads the code at the head of the window (log entry 15). -/
def State.withCodeWindow (s : State) (window : Nat) : State :=
  let stop := BitVec.ofNat 64 (s.pos.toNat + 4)
  { s with
    inp := (s.inp.extendTo stop).writeBytes s.pos.toNat (packBytes (windowBits window))
    lim := stop
    isOpen := true
    cur := 0
    mask := 0
    node := 0
    tail := 0
    ones := true
    err := false
    cause := .none
    hostq := .writeCmd 0x50#8 :: s.hostq }

end Sys2Proof.Machine
end

