-- ==== Sys2Proof/Machine/Tree.lean ====
section
/-!
DEFINITION. The Huffman decode tree as a ROM of 256 entries (spec 40_huffman_tree.md R120 to R129) and its
transition function NEXT (R124). The ROM is a constant: it exists before reset is released and no command
writes it (R125).
-/

namespace Sys2Proof.Machine

/-- One ROM entry: the child fields taken on bit 0 and on bit 1 (R122). -/
structure TreeEntry where
  c0 : BitVec 10
  c1 : BitVec 10
  deriving DecidableEq, Repr

/-- The 20-bit layout of an entry: `c1` = bits 19:10, `c0` = bits 9:0 (R122). -/
def TreeEntry.word (e : TreeEntry) : BitVec 20 := e.c1 ++ e.c0

/-- A child of an internal node: a leaf with its symbol 0 to 256, or an internal node (R120, R122). -/
inductive Child where
  | leaf (symbol : Nat)
  | node (i : NodeId)
  deriving DecidableEq, Repr

/-- Reading a 10-bit child field: bit 9 set is a leaf with symbol `f[8:0]`, bit 9 clear an internal node with
index `f[7:0]` (R122). -/
def Child.ofField (f : BitVec 10) : Child :=
  if f.getLsbD 9 then .leaf (f.toNat % 512) else .node (f.setWidth 8)

/-- Entries 0 to 15 of the ROM image (R129), each as `c0 field`, `c1 field`. -/
def treeRow0 : List TreeEntry := [
  ⟨0x042, 0x001⟩, ⟨0x05d, 0x002⟩, ⟨0x068, 0x003⟩, ⟨0x077, 0x004⟩,
  ⟨0x090, 0x005⟩, ⟨0x04b, 0x006⟩, ⟨0x07b, 0x007⟩, ⟨0x047, 0x008⟩,
  ⟨0x04d, 0x009⟩, ⟨0x049, 0x00a⟩, ⟨0x00b, 0x00d⟩, ⟨0x00c, 0x066⟩,
  ⟨0x200, 0x224⟩, ⟨0x07f, 0x00e⟩, ⟨0x080, 0x00f⟩, ⟨0x062, 0x010⟩]

/-- Entries 16 to 31 of the ROM image (R129), each as `c0 field`, `c1 field`. -/
def treeRow1 : List TreeEntry := [
  ⟨0x27b, 0x011⟩, ⟨0x07c, 0x012⟩, ⟨0x096, 0x013⟩, ⟨0x014, 0x019⟩,
  ⟨0x0c7, 0x015⟩, ⟨0x0d8, 0x016⟩, ⟨0x017, 0x0a2⟩, ⟨0x018, 0x0a1⟩,
  ⟨0x201, 0x287⟩, ⟨0x0a7, 0x01a⟩, ⟨0x029, 0x01b⟩, ⟨0x0bf, 0x01c⟩,
  ⟨0x0d3, 0x01d⟩, ⟨0x0e5, 0x01e⟩, ⟨0x01f, 0x02d⟩, ⟨0x020, 0x026⟩]

/-- Entries 32 to 47 of the ROM image (R129), each as `c0 field`, `c1 field`. -/
def treeRow2 : List TreeEntry := [
  ⟨0x021, 0x023⟩, ⟨0x2fe, 0x022⟩, ⟨0x202, 0x203⟩, ⟨0x024, 0x025⟩,
  ⟨0x204, 0x205⟩, ⟨0x206, 0x207⟩, ⟨0x027, 0x034⟩, ⟨0x028, 0x033⟩,
  ⟨0x208, 0x20b⟩, ⟨0x0d0, 0x02a⟩, ⟨0x02b, 0x0a5⟩, ⟨0x2ef, 0x02c⟩,
  ⟨0x209, 0x28e⟩, ⟨0x037, 0x02e⟩, ⟨0x03f, 0x02f⟩, ⟨0x093, 0x030⟩]

/-- Entries 48 to 63 of the ROM image (R129), each as `c0 field`, `c1 field`. -/
def treeRow3 : List TreeEntry := [
  ⟨0x2f9, 0x031⟩, ⟨0x032, 0x03b⟩, ⟨0x20a, 0x20d⟩, ⟨0x20c, 0x20e⟩,
  ⟨0x035, 0x036⟩, ⟨0x20f, 0x210⟩, ⟨0x211, 0x212⟩, ⟨0x038, 0x03c⟩,
  ⟨0x039, 0x03a⟩, ⟨0x213, 0x214⟩, ⟨0x215, 0x217⟩, ⟨0x216, 0x300⟩,
  ⟨0x03d, 0x03e⟩, ⟨0x218, 0x219⟩, ⟨0x21a, 0x21b⟩, ⟨0x040, 0x041⟩]

/-- Entries 64 to 79 of the ROM image (R129), each as `c0 field`, `c1 field`. -/
def treeRow4 : List TreeEntry := [
  ⟨0x21c, 0x21d⟩, ⟨0x21e, 0x21f⟩, ⟨0x055, 0x043⟩, ⟨0x044, 0x052⟩,
  ⟨0x08f, 0x045⟩, ⟨0x046, 0x051⟩, ⟨0x220, 0x225⟩, ⟨0x048, 0x04f⟩,
  ⟨0x221, 0x222⟩, ⟨0x27c, 0x04a⟩, ⟨0x223, 0x23e⟩, ⟨0x04c, 0x050⟩,
  ⟨0x226, 0x22a⟩, ⟨0x23f, 0x04e⟩, ⟨0x227, 0x22b⟩, ⟨0x228, 0x229⟩]

/-- Entries 80 to 95 of the ROM image (R129), each as `c0 field`, `c1 field`. -/
def treeRow5 : List TreeEntry := [
  ⟨0x22c, 0x23b⟩, ⟨0x22d, 0x22e⟩, ⟨0x053, 0x05a⟩, ⟨0x054, 0x059⟩,
  ⟨0x22f, 0x233⟩, ⟨0x056, 0x082⟩, ⟨0x057, 0x058⟩, ⟨0x230, 0x231⟩,
  ⟨0x232, 0x261⟩, ⟨0x234, 0x235⟩, ⟨0x05b, 0x05c⟩, ⟨0x236, 0x237⟩,
  ⟨0x238, 0x239⟩, ⟨0x063, 0x05e⟩, ⟨0x08a, 0x05f⟩, ⟨0x08e, 0x060⟩]

/-- Entries 96 to 111 of the ROM image (R129), each as `c0 field`, `c1 field`. -/
def treeRow6 : List TreeEntry := [
  ⟨0x061, 0x067⟩, ⟨0x23a, 0x242⟩, ⟨0x23c, 0x260⟩, ⟨0x064, 0x084⟩,
  ⟨0x065, 0x081⟩, ⟨0x23d, 0x241⟩, ⟨0x240, 0x25b⟩, ⟨0x243, 0x244⟩,
  ⟨0x069, 0x070⟩, ⟨0x06a, 0x06d⟩, ⟨0x06b, 0x06c⟩, ⟨0x245, 0x246⟩,
  ⟨0x247, 0x248⟩, ⟨0x06e, 0x06f⟩, ⟨0x249, 0x24a⟩, ⟨0x24b, 0x24c⟩]

/-- Entries 112 to 127 of the ROM image (R129), each as `c0 field`, `c1 field`. -/
def treeRow7 : List TreeEntry := [
  ⟨0x071, 0x074⟩, ⟨0x072, 0x073⟩, ⟨0x24d, 0x24e⟩, ⟨0x24f, 0x250⟩,
  ⟨0x075, 0x076⟩, ⟨0x251, 0x252⟩, ⟨0x253, 0x254⟩, ⟨0x078, 0x088⟩,
  ⟨0x079, 0x07a⟩, ⟨0x255, 0x256⟩, ⟨0x257, 0x259⟩, ⟨0x258, 0x25a⟩,
  ⟨0x07d, 0x09b⟩, ⟨0x07e, 0x094⟩, ⟨0x25c, 0x2c3⟩, ⟨0x25d, 0x27e⟩]

/-- Entries 128 to 143 of the ROM image (R129), each as `c0 field`, `c1 field`. -/
def treeRow8 : List TreeEntry := [
  ⟨0x25e, 0x27d⟩, ⟨0x25f, 0x262⟩, ⟨0x083, 0x087⟩, ⟨0x263, 0x265⟩,
  ⟨0x085, 0x086⟩, ⟨0x264, 0x266⟩, ⟨0x267, 0x268⟩, ⟨0x269, 0x26f⟩,
  ⟨0x089, 0x08d⟩, ⟨0x26a, 0x26b⟩, ⟨0x08b, 0x08c⟩, ⟨0x26c, 0x26d⟩,
  ⟨0x26e, 0x270⟩, ⟨0x271, 0x276⟩, ⟨0x272, 0x275⟩, ⟨0x273, 0x274⟩]

/-- Entries 144 to 159 of the ROM image (R129), each as `c0 field`, `c1 field`. -/
def treeRow9 : List TreeEntry := [
  ⟨0x091, 0x092⟩, ⟨0x277, 0x278⟩, ⟨0x279, 0x27a⟩, ⟨0x27f, 0x2dc⟩,
  ⟨0x2d0, 0x095⟩, ⟨0x280, 0x282⟩, ⟨0x0c4, 0x097⟩, ⟨0x098, 0x0b2⟩,
  ⟨0x099, 0x09e⟩, ⟨0x2e6, 0x09a⟩, ⟨0x281, 0x284⟩, ⟨0x09c, 0x0af⟩,
  ⟨0x09d, 0x0cc⟩, ⟨0x283, 0x2a2⟩, ⟨0x09f, 0x0a0⟩, ⟨0x285, 0x286⟩]

/-- Entries 160 to 175 of the ROM image (R129), each as `c0 field`, `c1 field`. -/
def treeRow10 : List TreeEntry := [
  ⟨0x288, 0x292⟩, ⟨0x289, 0x28a⟩, ⟨0x0a3, 0x0a4⟩, ⟨0x28b, 0x28c⟩,
  ⟨0x28d, 0x28f⟩, ⟨0x0a6, 0x0ab⟩, ⟨0x290, 0x291⟩, ⟨0x0a8, 0x0b9⟩,
  ⟨0x0a9, 0x0ad⟩, ⟨0x0aa, 0x0ac⟩, ⟨0x293, 0x295⟩, ⟨0x294, 0x29f⟩,
  ⟨0x296, 0x297⟩, ⟨0x0ae, 0x0b5⟩, ⟨0x298, 0x29b⟩, ⟨0x0f1, 0x0b0⟩]

/-- Entries 176 to 191 of the ROM image (R129), each as `c0 field`, `c1 field`. -/
def treeRow11 : List TreeEntry := [
  ⟨0x0b1, 0x0bc⟩, ⟨0x299, 0x2a1⟩, ⟨0x0b3, 0x0b7⟩, ⟨0x0b4, 0x0b6⟩,
  ⟨0x29a, 0x29c⟩, ⟨0x29d, 0x29e⟩, ⟨0x2a0, 0x2a3⟩, ⟨0x0b8, 0x0be⟩,
  ⟨0x2a4, 0x2a9⟩, ⟨0x0ba, 0x0c2⟩, ⟨0x0bb, 0x0bd⟩, ⟨0x2a5, 0x2a6⟩,
  ⟨0x2a7, 0x2ac⟩, ⟨0x2a8, 0x2ae⟩, ⟨0x2aa, 0x2ad⟩, ⟨0x0c0, 0x0da⟩]

/-- Entries 192 to 207 of the ROM image (R129), each as `c0 field`, `c1 field`. -/
def treeRow12 : List TreeEntry := [
  ⟨0x0c1, 0x0ea⟩, ⟨0x2ab, 0x2ce⟩, ⟨0x0c3, 0x0cb⟩, ⟨0x2af, 0x2b4⟩,
  ⟨0x0c5, 0x0eb⟩, ⟨0x0c6, 0x0ca⟩, ⟨0x2b0, 0x2b1⟩, ⟨0x0c8, 0x0ce⟩,
  ⟨0x0c9, 0x0cd⟩, ⟨0x2b2, 0x2b5⟩, ⟨0x2b3, 0x2d1⟩, ⟨0x2b6, 0x2b7⟩,
  ⟨0x2b8, 0x2c2⟩, ⟨0x2b9, 0x2ba⟩, ⟨0x0cf, 0x0d2⟩, ⟨0x2bb, 0x2bd⟩]

/-- Entries 208 to 223 of the ROM image (R129), each as `c0 field`, `c1 field`. -/
def treeRow13 : List TreeEntry := [
  ⟨0x0d1, 0x0d7⟩, ⟨0x2bc, 0x2bf⟩, ⟨0x2be, 0x2c4⟩, ⟨0x0d4, 0x0e0⟩,
  ⟨0x0d5, 0x0de⟩, ⟨0x0d6, 0x0dd⟩, ⟨0x2c0, 0x2c1⟩, ⟨0x2c5, 0x2e7⟩,
  ⟨0x0d9, 0x0f3⟩, ⟨0x2c6, 0x2e4⟩, ⟨0x0f5, 0x0db⟩, ⟨0x0dc, 0x0f4⟩,
  ⟨0x2c7, 0x2cf⟩, ⟨0x2c8, 0x2c9⟩, ⟨0x0df, 0x0e4⟩, ⟨0x2ca, 0x2cd⟩]

/-- Entries 224 to 239 of the ROM image (R129), each as `c0 field`, `c1 field`. -/
def treeRow14 : List TreeEntry := [
  ⟨0x0ed, 0x0e1⟩, ⟨0x0f8, 0x0e2⟩, ⟨0x2ff, 0x0e3⟩, ⟨0x2cb, 0x2cc⟩,
  ⟨0x2d2, 0x2d5⟩, ⟨0x0e6, 0x0f9⟩, ⟨0x0e7, 0x0ef⟩, ⟨0x0e8, 0x0e9⟩,
  ⟨0x2d3, 0x2d4⟩, ⟨0x2d6, 0x2dd⟩, ⟨0x2d7, 0x2e1⟩, ⟨0x0ec, 0x0f2⟩,
  ⟨0x2d8, 0x2d9⟩, ⟨0x0ee, 0x0f6⟩, ⟨0x2da, 0x2db⟩, ⟨0x0f0, 0x0f7⟩]

/-- Entries 240 to 255 of the ROM image (R129), each as `c0 field`, `c1 field`. -/
def treeRow15 : List TreeEntry := [
  ⟨0x2de, 0x2df⟩, ⟨0x2e0, 0x2e2⟩, ⟨0x2e3, 0x2e5⟩, ⟨0x2e8, 0x2e9⟩,
  ⟨0x2ea, 0x2eb⟩, ⟨0x2ec, 0x2ed⟩, ⟨0x2ee, 0x2f0⟩, ⟨0x2f1, 0x2f4⟩,
  ⟨0x2f2, 0x2f3⟩, ⟨0x0fa, 0x0fd⟩, ⟨0x0fb, 0x0fc⟩, ⟨0x2f5, 0x2f6⟩,
  ⟨0x2f7, 0x2f8⟩, ⟨0x0fe, 0x0ff⟩, ⟨0x2fa, 0x2fb⟩, ⟨0x2fc, 0x2fd⟩]

/-- The ROM image in sixteen rows of sixteen entries: entry `16 * r + k` is entry `k` of row `r` (R129). -/
def treeRows : List (List TreeEntry) := [
  treeRow0, treeRow1, treeRow2, treeRow3, treeRow4, treeRow5, treeRow6, treeRow7,
  treeRow8, treeRow9, treeRow10, treeRow11, treeRow12, treeRow13, treeRow14, treeRow15]

/-- `TREE[i]` (R122). -/
def treeEntry (i : NodeId) : TreeEntry :=
  ((treeRows[i.toNat / 16]?.getD [])[i.toNat % 16]?).getD ⟨0, 0⟩

/-- `NEXT(i, b)`: the child of node `i` on bit `b` (R124). -/
def nextChild (i : NodeId) (b : Bool) : Child :=
  Child.ofField (if b then (treeEntry i).c1 else (treeEntry i).c0)

/-- The root is node 0 (R123). -/
def root : NodeId := 0#8

/-- Following a bit string from node `i`: where it leads, if it does not run past a leaf (R121). -/
def walkFrom : NodeId → List Bool → Option Child
  | i, [] => some (.node i)
  | i, b :: bs =>
    match nextChild i b with
    | .node j => walkFrom j bs
    | .leaf sym => if bs = [] then some (.leaf sym) else none

/-- The internal nodes of the all-ones path, at depths 0 to 29 (R127). -/
def allOnesPath : List NodeId := [
  0, 1, 2, 3, 4, 5, 6, 7, 8, 9, 10, 13, 14, 15, 16,
  17, 18, 19, 25, 26, 27, 28, 29, 30, 45, 46, 47, 48, 49, 59]

end Sys2Proof.Machine
end

