-- ==== Sys2Proof/Machine/BitReader.lean ====
section
/-!
DEFINITION. The BitReader (spec 41_bitreader.md): the context (R140, R144), the micro-step BITSTEP (R141), readNext
(R142), and the commands BROPEN (R140), RDSYM (R143), BRCLOSE (R144).
-/

namespace Sys2Proof.Machine

/-! ### The context -/

/-- The BitReader registers of a fresh or discarded reader (R24, R140, R144). -/
def State.clearReader (s : State) : State :=
  { s with cur := 0, mask := 0, node := root, tail := 0, ones := true }

/-- A fresh reader over the next `len` bytes (R140). -/
def State.openView (s : State) (len : Nat) : State :=
  { s.clearReader with lim := BitVec.ofNat 64 (s.pos.toNat + len), isOpen := true }

/-- `OpenContext(L)` (R140): the next `len` bytes become the view, if there are that many; else nothing changes. At
`len = IN_LEN = 2^64 - 1` and `pos = 0` the rule's pseudocode opens the view and its corner case raises: DESIGN CHOICE, the
pseudocode is followed; unsafe at that one point (log entry 19). -/
def openContext (len : Nat) (s : State) : Proc Unit :=
  if s.bytesLeft < len then .raised .strTruncated s else .done () (s.openView len)

/-- `CloseContext()` (R144): the reader is cleared and the view is all of IN again; `pos` stays. -/
def State.closeContext (s : State) : State :=
  { s.clearReader with isOpen := false, lim := s.inp.len }

/-! ### The micro-step -/

/-- The outcome of one BITSTEP that raises nothing (R141). -/
inductive BitResult where
  /-- CONTINUE. -/
  | goOn
  /-- SYMBOL(s), s in 0 to 255. -/
  | symbol (v : Byte)
  /-- END. -/
  | atEnd
  deriving DecidableEq, Repr

/-- "Pull the next byte" (R63, R141): `cur <- Peek(); Advance(1); mask <- 0x80`. -/
def State.pullByte (s : State) (b : Byte) : State := { s.advance 1 with cur := b, mask := 0x80#8 }

/-- Moves the cursor past the current bit (R25, R26, R141). -/
def State.shiftBit (s : State) : State :=
  { s with mask := nextMask s.mask, cur := nextCur s.cur s.mask }

/-- The first half of BITSTEP: the next bit of the view, a byte being pulled if none is pending; `none` at the end of
the view (R141). -/
def takeBit (s : State) : Proc (Option Bool) :=
  if s.mask = 0#8 then
    match s.peek with
    | .endMarker => .done none s
    | .byte b => .done (some (currentBit b 0x80#8)) (s.pullByte b).shiftBit
    | .missing => .fault .noSuchInputByte
  else .done (some (currentBit s.cur s.mask)) s.shiftBit

/-- What the end of the view means (R146): END on a tail of at most seven ones, else HUF_BAD_TAIL. No register
changes. -/
def endOfView (s : State) : Proc BitResult :=
  if cleanEnd s then .done .atEnd s else .raised .hufBadTail s

/-- One more tail bit, which led to the internal node `i` (R27 to R29, R141). -/
def State.countBit (s : State) (b : Bool) (i : NodeId) : State :=
  { s with tail := nextTail s.tail, ones := nextOnes s.ones b, node := i }

/-- Back to the root at a leaf (R141). -/
def State.toRoot (s : State) : State := { s with node := root, tail := 0, ones := true }

/-- The second half of BITSTEP: one bit counted into the tail and one edge of the tree descended; at a leaf back to the
root with the symbol, EOS raising HUF_EOS (R141, R145). -/
def descend (b : Bool) (s : State) : Proc BitResult :=
  match nextChild s.node b with
  | .node i => .done .goOn (s.countBit b i)
  | .leaf sym =>
    if sym = Config.eos then .raised .hufEos s.toRoot else .done (.symbol (BitVec.ofNat 8 sym)) s.toRoot

/-- BITSTEP (R141). -/
def bitStep (s : State) : Proc BitResult :=
  (takeBit s).bind fun bit s' =>
    match bit with
    | none => endOfView s'
    | some b => descend b s'

/-- BITSTEP repeated at most `n` times, until its outcome is not CONTINUE. -/
def bitLoop : Nat → State → Proc (Option Byte)
  | 0, _ => .fault .bitStepBound
  | n + 1, s =>
    (bitStep s).bind fun r s' =>
      match r with
      | .goOn => bitLoop n s'
      | .symbol v => .done (some v) s'
      | .atEnd => .done none s'

/-- `readNext()` (R142): `some v` is SYMBOL(v), `none` is END. MAXLEN repetitions are enough in every state, since no
walk from an internal node takes more (R149; log entry 8). -/
def readNext (s : State) : Proc (Option Byte) := bitLoop Config.maxLen s

/-! ### The commands -/

/-- BROPEN (R140). -/
def execBropen (s : State) : Host.Outcome State Fault Refusal :=
  unlessError (fun s =>
    if s.isOpen then .next (s.raiseError .illegalCommand)
    else (openContext (byteLength s) s).commit fun _ s => s.setResult .none 0 0) s

/-- The result of RDSYM (R143): SYMBOL with the symbol, or END. -/
def deliverSymbol (r : Option Byte) (s : State) : State :=
  match r with
  | some v => s.setResult .symbol v.toNat 0
  | none => s.setResult .streamEnd 0 0

/-- RDSYM (R143). -/
def execRdsym (s : State) : Host.Outcome State Fault Refusal :=
  unlessError (fun s =>
    if s.isOpen then (readNext s).commit deliverSymbol
    else .next (s.raiseError .illegalCommand)) s

/-- BRCLOSE (R144). -/
def execBrclose (s : State) : Host.Outcome State Fault Refusal :=
  unlessError (fun s =>
    if s.isOpen then .next (s.closeContext.setResult .none 0 0)
    else .next (s.raiseError .illegalCommand)) s

end Sys2Proof.Machine
end

