-- ==== Sys2Proof/Machine/Huffman.lean ====
section
/-!
DEFINITION. The meanings of the 257 code words (spec 30_encoding.md R99, 41_bitreader.md R141, R143, R145): one
symbol read by RDSYM whose bits are the code (log entries 5 and 6). A code word of symbols 0 to 255 ends
in SYMBOL, the EOS code in HUF_EOS.
-/

namespace Sys2Proof.Machine

/-- BITSTEP (R141) on a stream whose next bit is `c`. -/
def codeStep (c : Bool) (s : State) : Proc BitResult :=
  (takeBit s).bind fun bit s' =>
    match bit with
    | none => endOfView s'
    | some _ => descend c s'

/-- readNext (R142) on a stream whose next bits are the given code: one micro-step per code bit. If the view ends first,
R146 applies to the bits consumed; if the code ends in no leaf (it was not met at a symbol boundary), the read goes on
with the bits of the view (log entry 6). -/
def walkCode : List Bool → State → Proc (Option Byte)
  | [], s => readNext s
  | c :: cs, s =>
    (codeStep c s).bind fun r s' =>
      match r with
      | .goOn => walkCode cs s'
      | .symbol v => .done (some v) s'
      | .atEnd => .done none s'

/-- A code word as an instruction: RDSYM (R143) on a stream whose next bits are `code`, with RDSYM's checks. -/
def execCode (code : List Bool) (s : State) : Host.Outcome State Fault Refusal :=
  unlessError (fun s =>
    if s.isOpen then (walkCode code s).commit deliverSymbol
    else .next (s.raiseError .illegalCommand)) s

/-- HUF_0 (R141, R143): the code `1111111111000`. -/
def execHuf0 (s : State) : Host.Outcome State Fault Refusal := execCode (hufCode 0) s

/-- HUF_1 (R141, R143): the code `11111111111111111011000`. -/
def execHuf1 (s : State) : Host.Outcome State Fault Refusal := execCode (hufCode 1) s

/-- HUF_2 (R141, R143): the code `1111111111111111111111100010`. -/
def execHuf2 (s : State) : Host.Outcome State Fault Refusal := execCode (hufCode 2) s

/-- HUF_3 (R141, R143): the code `1111111111111111111111100011`. -/
def execHuf3 (s : State) : Host.Outcome State Fault Refusal := execCode (hufCode 3) s

/-- HUF_4 (R141, R143): the code `1111111111111111111111100100`. -/
def execHuf4 (s : State) : Host.Outcome State Fault Refusal := execCode (hufCode 4) s

/-- HUF_5 (R141, R143): the code `1111111111111111111111100101`. -/
def execHuf5 (s : State) : Host.Outcome State Fault Refusal := execCode (hufCode 5) s

/-- HUF_6 (R141, R143): the code `1111111111111111111111100110`. -/
def execHuf6 (s : State) : Host.Outcome State Fault Refusal := execCode (hufCode 6) s

/-- HUF_7 (R141, R143): the code `1111111111111111111111100111`. -/
def execHuf7 (s : State) : Host.Outcome State Fault Refusal := execCode (hufCode 7) s

/-- HUF_8 (R141, R143): the code `1111111111111111111111101000`. -/
def execHuf8 (s : State) : Host.Outcome State Fault Refusal := execCode (hufCode 8) s

/-- HUF_9 (R141, R143): the code `111111111111111111101010`. -/
def execHuf9 (s : State) : Host.Outcome State Fault Refusal := execCode (hufCode 9) s

/-- HUF_10 (R141, R143): the code `111111111111111111111111111100`. -/
def execHuf10 (s : State) : Host.Outcome State Fault Refusal := execCode (hufCode 10) s

/-- HUF_11 (R141, R143): the code `1111111111111111111111101001`. -/
def execHuf11 (s : State) : Host.Outcome State Fault Refusal := execCode (hufCode 11) s

/-- HUF_12 (R141, R143): the code `1111111111111111111111101010`. -/
def execHuf12 (s : State) : Host.Outcome State Fault Refusal := execCode (hufCode 12) s

/-- HUF_13 (R141, R143): the code `111111111111111111111111111101`. -/
def execHuf13 (s : State) : Host.Outcome State Fault Refusal := execCode (hufCode 13) s

/-- HUF_14 (R141, R143): the code `1111111111111111111111101011`. -/
def execHuf14 (s : State) : Host.Outcome State Fault Refusal := execCode (hufCode 14) s

/-- HUF_15 (R141, R143): the code `1111111111111111111111101100`. -/
def execHuf15 (s : State) : Host.Outcome State Fault Refusal := execCode (hufCode 15) s

/-- HUF_16 (R141, R143): the code `1111111111111111111111101101`. -/
def execHuf16 (s : State) : Host.Outcome State Fault Refusal := execCode (hufCode 16) s

/-- HUF_17 (R141, R143): the code `1111111111111111111111101110`. -/
def execHuf17 (s : State) : Host.Outcome State Fault Refusal := execCode (hufCode 17) s

/-- HUF_18 (R141, R143): the code `1111111111111111111111101111`. -/
def execHuf18 (s : State) : Host.Outcome State Fault Refusal := execCode (hufCode 18) s

/-- HUF_19 (R141, R143): the code `1111111111111111111111110000`. -/
def execHuf19 (s : State) : Host.Outcome State Fault Refusal := execCode (hufCode 19) s

/-- HUF_20 (R141, R143): the code `1111111111111111111111110001`. -/
def execHuf20 (s : State) : Host.Outcome State Fault Refusal := execCode (hufCode 20) s

/-- HUF_21 (R141, R143): the code `1111111111111111111111110010`. -/
def execHuf21 (s : State) : Host.Outcome State Fault Refusal := execCode (hufCode 21) s

/-- HUF_22 (R141, R143): the code `111111111111111111111111111110`. -/
def execHuf22 (s : State) : Host.Outcome State Fault Refusal := execCode (hufCode 22) s

/-- HUF_23 (R141, R143): the code `1111111111111111111111110011`. -/
def execHuf23 (s : State) : Host.Outcome State Fault Refusal := execCode (hufCode 23) s

/-- HUF_24 (R141, R143): the code `1111111111111111111111110100`. -/
def execHuf24 (s : State) : Host.Outcome State Fault Refusal := execCode (hufCode 24) s

/-- HUF_25 (R141, R143): the code `1111111111111111111111110101`. -/
def execHuf25 (s : State) : Host.Outcome State Fault Refusal := execCode (hufCode 25) s

/-- HUF_26 (R141, R143): the code `1111111111111111111111110110`. -/
def execHuf26 (s : State) : Host.Outcome State Fault Refusal := execCode (hufCode 26) s

/-- HUF_27 (R141, R143): the code `1111111111111111111111110111`. -/
def execHuf27 (s : State) : Host.Outcome State Fault Refusal := execCode (hufCode 27) s

/-- HUF_28 (R141, R143): the code `1111111111111111111111111000`. -/
def execHuf28 (s : State) : Host.Outcome State Fault Refusal := execCode (hufCode 28) s

/-- HUF_29 (R141, R143): the code `1111111111111111111111111001`. -/
def execHuf29 (s : State) : Host.Outcome State Fault Refusal := execCode (hufCode 29) s

/-- HUF_30 (R141, R143): the code `1111111111111111111111111010`. -/
def execHuf30 (s : State) : Host.Outcome State Fault Refusal := execCode (hufCode 30) s

/-- HUF_31 (R141, R143): the code `1111111111111111111111111011`. -/
def execHuf31 (s : State) : Host.Outcome State Fault Refusal := execCode (hufCode 31) s

/-- HUF_32 (R141, R143): the code `010100`. -/
def execHuf32 (s : State) : Host.Outcome State Fault Refusal := execCode (hufCode 32) s

/-- HUF_33 (R141, R143): the code `1111111000`. -/
def execHuf33 (s : State) : Host.Outcome State Fault Refusal := execCode (hufCode 33) s

/-- HUF_34 (R141, R143): the code `1111111001`. -/
def execHuf34 (s : State) : Host.Outcome State Fault Refusal := execCode (hufCode 34) s

/-- HUF_35 (R141, R143): the code `111111111010`. -/
def execHuf35 (s : State) : Host.Outcome State Fault Refusal := execCode (hufCode 35) s

/-- HUF_36 (R141, R143): the code `1111111111001`. -/
def execHuf36 (s : State) : Host.Outcome State Fault Refusal := execCode (hufCode 36) s

/-- HUF_37 (R141, R143): the code `010101`. -/
def execHuf37 (s : State) : Host.Outcome State Fault Refusal := execCode (hufCode 37) s

/-- HUF_38 (R141, R143): the code `11111000`. -/
def execHuf38 (s : State) : Host.Outcome State Fault Refusal := execCode (hufCode 38) s

/-- HUF_39 (R141, R143): the code `11111111010`. -/
def execHuf39 (s : State) : Host.Outcome State Fault Refusal := execCode (hufCode 39) s

/-- HUF_40 (R141, R143): the code `1111111010`. -/
def execHuf40 (s : State) : Host.Outcome State Fault Refusal := execCode (hufCode 40) s

/-- HUF_41 (R141, R143): the code `1111111011`. -/
def execHuf41 (s : State) : Host.Outcome State Fault Refusal := execCode (hufCode 41) s

/-- HUF_42 (R141, R143): the code `11111001`. -/
def execHuf42 (s : State) : Host.Outcome State Fault Refusal := execCode (hufCode 42) s

/-- HUF_43 (R141, R143): the code `11111111011`. -/
def execHuf43 (s : State) : Host.Outcome State Fault Refusal := execCode (hufCode 43) s

/-- HUF_44 (R141, R143): the code `11111010`. -/
def execHuf44 (s : State) : Host.Outcome State Fault Refusal := execCode (hufCode 44) s

/-- HUF_45 (R141, R143): the code `010110`. -/
def execHuf45 (s : State) : Host.Outcome State Fault Refusal := execCode (hufCode 45) s

/-- HUF_46 (R141, R143): the code `010111`. -/
def execHuf46 (s : State) : Host.Outcome State Fault Refusal := execCode (hufCode 46) s

/-- HUF_47 (R141, R143): the code `011000`. -/
def execHuf47 (s : State) : Host.Outcome State Fault Refusal := execCode (hufCode 47) s

/-- HUF_48 (R141, R143): the code `00000`. -/
def execHuf48 (s : State) : Host.Outcome State Fault Refusal := execCode (hufCode 48) s

/-- HUF_49 (R141, R143): the code `00001`. -/
def execHuf49 (s : State) : Host.Outcome State Fault Refusal := execCode (hufCode 49) s

/-- HUF_50 (R141, R143): the code `00010`. -/
def execHuf50 (s : State) : Host.Outcome State Fault Refusal := execCode (hufCode 50) s

/-- HUF_51 (R141, R143): the code `011001`. -/
def execHuf51 (s : State) : Host.Outcome State Fault Refusal := execCode (hufCode 51) s

/-- HUF_52 (R141, R143): the code `011010`. -/
def execHuf52 (s : State) : Host.Outcome State Fault Refusal := execCode (hufCode 52) s

/-- HUF_53 (R141, R143): the code `011011`. -/
def execHuf53 (s : State) : Host.Outcome State Fault Refusal := execCode (hufCode 53) s

/-- HUF_54 (R141, R143): the code `011100`. -/
def execHuf54 (s : State) : Host.Outcome State Fault Refusal := execCode (hufCode 54) s

/-- HUF_55 (R141, R143): the code `011101`. -/
def execHuf55 (s : State) : Host.Outcome State Fault Refusal := execCode (hufCode 55) s

/-- HUF_56 (R141, R143): the code `011110`. -/
def execHuf56 (s : State) : Host.Outcome State Fault Refusal := execCode (hufCode 56) s

/-- HUF_57 (R141, R143): the code `011111`. -/
def execHuf57 (s : State) : Host.Outcome State Fault Refusal := execCode (hufCode 57) s

/-- HUF_58 (R141, R143): the code `1011100`. -/
def execHuf58 (s : State) : Host.Outcome State Fault Refusal := execCode (hufCode 58) s

/-- HUF_59 (R141, R143): the code `11111011`. -/
def execHuf59 (s : State) : Host.Outcome State Fault Refusal := execCode (hufCode 59) s

/-- HUF_60 (R141, R143): the code `111111111111100`. -/
def execHuf60 (s : State) : Host.Outcome State Fault Refusal := execCode (hufCode 60) s

/-- HUF_61 (R141, R143): the code `100000`. -/
def execHuf61 (s : State) : Host.Outcome State Fault Refusal := execCode (hufCode 61) s

/-- HUF_62 (R141, R143): the code `111111111011`. -/
def execHuf62 (s : State) : Host.Outcome State Fault Refusal := execCode (hufCode 62) s

/-- HUF_63 (R141, R143): the code `1111111100`. -/
def execHuf63 (s : State) : Host.Outcome State Fault Refusal := execCode (hufCode 63) s

/-- HUF_64 (R141, R143): the code `1111111111010`. -/
def execHuf64 (s : State) : Host.Outcome State Fault Refusal := execCode (hufCode 64) s

/-- HUF_65 (R141, R143): the code `100001`. -/
def execHuf65 (s : State) : Host.Outcome State Fault Refusal := execCode (hufCode 65) s

/-- HUF_66 (R141, R143): the code `1011101`. -/
def execHuf66 (s : State) : Host.Outcome State Fault Refusal := execCode (hufCode 66) s

/-- HUF_67 (R141, R143): the code `1011110`. -/
def execHuf67 (s : State) : Host.Outcome State Fault Refusal := execCode (hufCode 67) s

/-- HUF_68 (R141, R143): the code `1011111`. -/
def execHuf68 (s : State) : Host.Outcome State Fault Refusal := execCode (hufCode 68) s

/-- HUF_69 (R141, R143): the code `1100000`. -/
def execHuf69 (s : State) : Host.Outcome State Fault Refusal := execCode (hufCode 69) s

/-- HUF_70 (R141, R143): the code `1100001`. -/
def execHuf70 (s : State) : Host.Outcome State Fault Refusal := execCode (hufCode 70) s

/-- HUF_71 (R141, R143): the code `1100010`. -/
def execHuf71 (s : State) : Host.Outcome State Fault Refusal := execCode (hufCode 71) s

/-- HUF_72 (R141, R143): the code `1100011`. -/
def execHuf72 (s : State) : Host.Outcome State Fault Refusal := execCode (hufCode 72) s

/-- HUF_73 (R141, R143): the code `1100100`. -/
def execHuf73 (s : State) : Host.Outcome State Fault Refusal := execCode (hufCode 73) s

/-- HUF_74 (R141, R143): the code `1100101`. -/
def execHuf74 (s : State) : Host.Outcome State Fault Refusal := execCode (hufCode 74) s

/-- HUF_75 (R141, R143): the code `1100110`. -/
def execHuf75 (s : State) : Host.Outcome State Fault Refusal := execCode (hufCode 75) s

/-- HUF_76 (R141, R143): the code `1100111`. -/
def execHuf76 (s : State) : Host.Outcome State Fault Refusal := execCode (hufCode 76) s

/-- HUF_77 (R141, R143): the code `1101000`. -/
def execHuf77 (s : State) : Host.Outcome State Fault Refusal := execCode (hufCode 77) s

/-- HUF_78 (R141, R143): the code `1101001`. -/
def execHuf78 (s : State) : Host.Outcome State Fault Refusal := execCode (hufCode 78) s

/-- HUF_79 (R141, R143): the code `1101010`. -/
def execHuf79 (s : State) : Host.Outcome State Fault Refusal := execCode (hufCode 79) s

/-- HUF_80 (R141, R143): the code `1101011`. -/
def execHuf80 (s : State) : Host.Outcome State Fault Refusal := execCode (hufCode 80) s

/-- HUF_81 (R141, R143): the code `1101100`. -/
def execHuf81 (s : State) : Host.Outcome State Fault Refusal := execCode (hufCode 81) s

/-- HUF_82 (R141, R143): the code `1101101`. -/
def execHuf82 (s : State) : Host.Outcome State Fault Refusal := execCode (hufCode 82) s

/-- HUF_83 (R141, R143): the code `1101110`. -/
def execHuf83 (s : State) : Host.Outcome State Fault Refusal := execCode (hufCode 83) s

/-- HUF_84 (R141, R143): the code `1101111`. -/
def execHuf84 (s : State) : Host.Outcome State Fault Refusal := execCode (hufCode 84) s

/-- HUF_85 (R141, R143): the code `1110000`. -/
def execHuf85 (s : State) : Host.Outcome State Fault Refusal := execCode (hufCode 85) s

/-- HUF_86 (R141, R143): the code `1110001`. -/
def execHuf86 (s : State) : Host.Outcome State Fault Refusal := execCode (hufCode 86) s

/-- HUF_87 (R141, R143): the code `1110010`. -/
def execHuf87 (s : State) : Host.Outcome State Fault Refusal := execCode (hufCode 87) s

/-- HUF_88 (R141, R143): the code `11111100`. -/
def execHuf88 (s : State) : Host.Outcome State Fault Refusal := execCode (hufCode 88) s

/-- HUF_89 (R141, R143): the code `1110011`. -/
def execHuf89 (s : State) : Host.Outcome State Fault Refusal := execCode (hufCode 89) s

/-- HUF_90 (R141, R143): the code `11111101`. -/
def execHuf90 (s : State) : Host.Outcome State Fault Refusal := execCode (hufCode 90) s

/-- HUF_91 (R141, R143): the code `1111111111011`. -/
def execHuf91 (s : State) : Host.Outcome State Fault Refusal := execCode (hufCode 91) s

/-- HUF_92 (R141, R143): the code `1111111111111110000`. -/
def execHuf92 (s : State) : Host.Outcome State Fault Refusal := execCode (hufCode 92) s

/-- HUF_93 (R141, R143): the code `1111111111100`. -/
def execHuf93 (s : State) : Host.Outcome State Fault Refusal := execCode (hufCode 93) s

/-- HUF_94 (R141, R143): the code `11111111111100`. -/
def execHuf94 (s : State) : Host.Outcome State Fault Refusal := execCode (hufCode 94) s

/-- HUF_95 (R141, R143): the code `100010`. -/
def execHuf95 (s : State) : Host.Outcome State Fault Refusal := execCode (hufCode 95) s

/-- HUF_96 (R141, R143): the code `111111111111101`. -/
def execHuf96 (s : State) : Host.Outcome State Fault Refusal := execCode (hufCode 96) s

/-- HUF_97 (R141, R143): the code `00011`. -/
def execHuf97 (s : State) : Host.Outcome State Fault Refusal := execCode (hufCode 97) s

/-- HUF_98 (R141, R143): the code `100011`. -/
def execHuf98 (s : State) : Host.Outcome State Fault Refusal := execCode (hufCode 98) s

/-- HUF_99 (R141, R143): the code `00100`. -/
def execHuf99 (s : State) : Host.Outcome State Fault Refusal := execCode (hufCode 99) s

/-- HUF_100 (R141, R143): the code `100100`. -/
def execHuf100 (s : State) : Host.Outcome State Fault Refusal := execCode (hufCode 100) s

/-- HUF_101 (R141, R143): the code `00101`. -/
def execHuf101 (s : State) : Host.Outcome State Fault Refusal := execCode (hufCode 101) s

/-- HUF_102 (R141, R143): the code `100101`. -/
def execHuf102 (s : State) : Host.Outcome State Fault Refusal := execCode (hufCode 102) s

/-- HUF_103 (R141, R143): the code `100110`. -/
def execHuf103 (s : State) : Host.Outcome State Fault Refusal := execCode (hufCode 103) s

/-- HUF_104 (R141, R143): the code `100111`. -/
def execHuf104 (s : State) : Host.Outcome State Fault Refusal := execCode (hufCode 104) s

/-- HUF_105 (R141, R143): the code `00110`. -/
def execHuf105 (s : State) : Host.Outcome State Fault Refusal := execCode (hufCode 105) s

/-- HUF_106 (R141, R143): the code `1110100`. -/
def execHuf106 (s : State) : Host.Outcome State Fault Refusal := execCode (hufCode 106) s

/-- HUF_107 (R141, R143): the code `1110101`. -/
def execHuf107 (s : State) : Host.Outcome State Fault Refusal := execCode (hufCode 107) s

/-- HUF_108 (R141, R143): the code `101000`. -/
def execHuf108 (s : State) : Host.Outcome State Fault Refusal := execCode (hufCode 108) s

/-- HUF_109 (R141, R143): the code `101001`. -/
def execHuf109 (s : State) : Host.Outcome State Fault Refusal := execCode (hufCode 109) s

/-- HUF_110 (R141, R143): the code `101010`. -/
def execHuf110 (s : State) : Host.Outcome State Fault Refusal := execCode (hufCode 110) s

/-- HUF_111 (R141, R143): the code `00111`. -/
def execHuf111 (s : State) : Host.Outcome State Fault Refusal := execCode (hufCode 111) s

/-- HUF_112 (R141, R143): the code `101011`. -/
def execHuf112 (s : State) : Host.Outcome State Fault Refusal := execCode (hufCode 112) s

/-- HUF_113 (R141, R143): the code `1110110`. -/
def execHuf113 (s : State) : Host.Outcome State Fault Refusal := execCode (hufCode 113) s

/-- HUF_114 (R141, R143): the code `101100`. -/
def execHuf114 (s : State) : Host.Outcome State Fault Refusal := execCode (hufCode 114) s

/-- HUF_115 (R141, R143): the code `01000`. -/
def execHuf115 (s : State) : Host.Outcome State Fault Refusal := execCode (hufCode 115) s

/-- HUF_116 (R141, R143): the code `01001`. -/
def execHuf116 (s : State) : Host.Outcome State Fault Refusal := execCode (hufCode 116) s

/-- HUF_117 (R141, R143): the code `101101`. -/
def execHuf117 (s : State) : Host.Outcome State Fault Refusal := execCode (hufCode 117) s

/-- HUF_118 (R141, R143): the code `1110111`. -/
def execHuf118 (s : State) : Host.Outcome State Fault Refusal := execCode (hufCode 118) s

/-- HUF_119 (R141, R143): the code `1111000`. -/
def execHuf119 (s : State) : Host.Outcome State Fault Refusal := execCode (hufCode 119) s

/-- HUF_120 (R141, R143): the code `1111001`. -/
def execHuf120 (s : State) : Host.Outcome State Fault Refusal := execCode (hufCode 120) s

/-- HUF_121 (R141, R143): the code `1111010`. -/
def execHuf121 (s : State) : Host.Outcome State Fault Refusal := execCode (hufCode 121) s

/-- HUF_122 (R141, R143): the code `1111011`. -/
def execHuf122 (s : State) : Host.Outcome State Fault Refusal := execCode (hufCode 122) s

/-- HUF_123 (R141, R143): the code `111111111111110`. -/
def execHuf123 (s : State) : Host.Outcome State Fault Refusal := execCode (hufCode 123) s

/-- HUF_124 (R141, R143): the code `11111111100`. -/
def execHuf124 (s : State) : Host.Outcome State Fault Refusal := execCode (hufCode 124) s

/-- HUF_125 (R141, R143): the code `11111111111101`. -/
def execHuf125 (s : State) : Host.Outcome State Fault Refusal := execCode (hufCode 125) s

/-- HUF_126 (R141, R143): the code `1111111111101`. -/
def execHuf126 (s : State) : Host.Outcome State Fault Refusal := execCode (hufCode 126) s

/-- HUF_127 (R141, R143): the code `1111111111111111111111111100`. -/
def execHuf127 (s : State) : Host.Outcome State Fault Refusal := execCode (hufCode 127) s

/-- HUF_128 (R141, R143): the code `11111111111111100110`. -/
def execHuf128 (s : State) : Host.Outcome State Fault Refusal := execCode (hufCode 128) s

/-- HUF_129 (R141, R143): the code `1111111111111111010010`. -/
def execHuf129 (s : State) : Host.Outcome State Fault Refusal := execCode (hufCode 129) s

/-- HUF_130 (R141, R143): the code `11111111111111100111`. -/
def execHuf130 (s : State) : Host.Outcome State Fault Refusal := execCode (hufCode 130) s

/-- HUF_131 (R141, R143): the code `11111111111111101000`. -/
def execHuf131 (s : State) : Host.Outcome State Fault Refusal := execCode (hufCode 131) s

/-- HUF_132 (R141, R143): the code `1111111111111111010011`. -/
def execHuf132 (s : State) : Host.Outcome State Fault Refusal := execCode (hufCode 132) s

/-- HUF_133 (R141, R143): the code `1111111111111111010100`. -/
def execHuf133 (s : State) : Host.Outcome State Fault Refusal := execCode (hufCode 133) s

/-- HUF_134 (R141, R143): the code `1111111111111111010101`. -/
def execHuf134 (s : State) : Host.Outcome State Fault Refusal := execCode (hufCode 134) s

/-- HUF_135 (R141, R143): the code `11111111111111111011001`. -/
def execHuf135 (s : State) : Host.Outcome State Fault Refusal := execCode (hufCode 135) s

/-- HUF_136 (R141, R143): the code `1111111111111111010110`. -/
def execHuf136 (s : State) : Host.Outcome State Fault Refusal := execCode (hufCode 136) s

/-- HUF_137 (R141, R143): the code `11111111111111111011010`. -/
def execHuf137 (s : State) : Host.Outcome State Fault Refusal := execCode (hufCode 137) s

/-- HUF_138 (R141, R143): the code `11111111111111111011011`. -/
def execHuf138 (s : State) : Host.Outcome State Fault Refusal := execCode (hufCode 138) s

/-- HUF_139 (R141, R143): the code `11111111111111111011100`. -/
def execHuf139 (s : State) : Host.Outcome State Fault Refusal := execCode (hufCode 139) s

/-- HUF_140 (R141, R143): the code `11111111111111111011101`. -/
def execHuf140 (s : State) : Host.Outcome State Fault Refusal := execCode (hufCode 140) s

/-- HUF_141 (R141, R143): the code `11111111111111111011110`. -/
def execHuf141 (s : State) : Host.Outcome State Fault Refusal := execCode (hufCode 141) s

/-- HUF_142 (R141, R143): the code `111111111111111111101011`. -/
def execHuf142 (s : State) : Host.Outcome State Fault Refusal := execCode (hufCode 142) s

/-- HUF_143 (R141, R143): the code `11111111111111111011111`. -/
def execHuf143 (s : State) : Host.Outcome State Fault Refusal := execCode (hufCode 143) s

/-- HUF_144 (R141, R143): the code `111111111111111111101100`. -/
def execHuf144 (s : State) : Host.Outcome State Fault Refusal := execCode (hufCode 144) s

/-- HUF_145 (R141, R143): the code `111111111111111111101101`. -/
def execHuf145 (s : State) : Host.Outcome State Fault Refusal := execCode (hufCode 145) s

/-- HUF_146 (R141, R143): the code `1111111111111111010111`. -/
def execHuf146 (s : State) : Host.Outcome State Fault Refusal := execCode (hufCode 146) s

/-- HUF_147 (R141, R143): the code `11111111111111111100000`. -/
def execHuf147 (s : State) : Host.Outcome State Fault Refusal := execCode (hufCode 147) s

/-- HUF_148 (R141, R143): the code `111111111111111111101110`. -/
def execHuf148 (s : State) : Host.Outcome State Fault Refusal := execCode (hufCode 148) s

/-- HUF_149 (R141, R143): the code `11111111111111111100001`. -/
def execHuf149 (s : State) : Host.Outcome State Fault Refusal := execCode (hufCode 149) s

/-- HUF_150 (R141, R143): the code `11111111111111111100010`. -/
def execHuf150 (s : State) : Host.Outcome State Fault Refusal := execCode (hufCode 150) s

/-- HUF_151 (R141, R143): the code `11111111111111111100011`. -/
def execHuf151 (s : State) : Host.Outcome State Fault Refusal := execCode (hufCode 151) s

/-- HUF_152 (R141, R143): the code `11111111111111111100100`. -/
def execHuf152 (s : State) : Host.Outcome State Fault Refusal := execCode (hufCode 152) s

/-- HUF_153 (R141, R143): the code `111111111111111011100`. -/
def execHuf153 (s : State) : Host.Outcome State Fault Refusal := execCode (hufCode 153) s

/-- HUF_154 (R141, R143): the code `1111111111111111011000`. -/
def execHuf154 (s : State) : Host.Outcome State Fault Refusal := execCode (hufCode 154) s

/-- HUF_155 (R141, R143): the code `11111111111111111100101`. -/
def execHuf155 (s : State) : Host.Outcome State Fault Refusal := execCode (hufCode 155) s

/-- HUF_156 (R141, R143): the code `1111111111111111011001`. -/
def execHuf156 (s : State) : Host.Outcome State Fault Refusal := execCode (hufCode 156) s

/-- HUF_157 (R141, R143): the code `11111111111111111100110`. -/
def execHuf157 (s : State) : Host.Outcome State Fault Refusal := execCode (hufCode 157) s

/-- HUF_158 (R141, R143): the code `11111111111111111100111`. -/
def execHuf158 (s : State) : Host.Outcome State Fault Refusal := execCode (hufCode 158) s

/-- HUF_159 (R141, R143): the code `111111111111111111101111`. -/
def execHuf159 (s : State) : Host.Outcome State Fault Refusal := execCode (hufCode 159) s

/-- HUF_160 (R141, R143): the code `1111111111111111011010`. -/
def execHuf160 (s : State) : Host.Outcome State Fault Refusal := execCode (hufCode 160) s

/-- HUF_161 (R141, R143): the code `111111111111111011101`. -/
def execHuf161 (s : State) : Host.Outcome State Fault Refusal := execCode (hufCode 161) s

/-- HUF_162 (R141, R143): the code `11111111111111101001`. -/
def execHuf162 (s : State) : Host.Outcome State Fault Refusal := execCode (hufCode 162) s

/-- HUF_163 (R141, R143): the code `1111111111111111011011`. -/
def execHuf163 (s : State) : Host.Outcome State Fault Refusal := execCode (hufCode 163) s

/-- HUF_164 (R141, R143): the code `1111111111111111011100`. -/
def execHuf164 (s : State) : Host.Outcome State Fault Refusal := execCode (hufCode 164) s

/-- HUF_165 (R141, R143): the code `11111111111111111101000`. -/
def execHuf165 (s : State) : Host.Outcome State Fault Refusal := execCode (hufCode 165) s

/-- HUF_166 (R141, R143): the code `11111111111111111101001`. -/
def execHuf166 (s : State) : Host.Outcome State Fault Refusal := execCode (hufCode 166) s

/-- HUF_167 (R141, R143): the code `111111111111111011110`. -/
def execHuf167 (s : State) : Host.Outcome State Fault Refusal := execCode (hufCode 167) s

/-- HUF_168 (R141, R143): the code `11111111111111111101010`. -/
def execHuf168 (s : State) : Host.Outcome State Fault Refusal := execCode (hufCode 168) s

/-- HUF_169 (R141, R143): the code `1111111111111111011101`. -/
def execHuf169 (s : State) : Host.Outcome State Fault Refusal := execCode (hufCode 169) s

/-- HUF_170 (R141, R143): the code `1111111111111111011110`. -/
def execHuf170 (s : State) : Host.Outcome State Fault Refusal := execCode (hufCode 170) s

/-- HUF_171 (R141, R143): the code `111111111111111111110000`. -/
def execHuf171 (s : State) : Host.Outcome State Fault Refusal := execCode (hufCode 171) s

/-- HUF_172 (R141, R143): the code `111111111111111011111`. -/
def execHuf172 (s : State) : Host.Outcome State Fault Refusal := execCode (hufCode 172) s

/-- HUF_173 (R141, R143): the code `1111111111111111011111`. -/
def execHuf173 (s : State) : Host.Outcome State Fault Refusal := execCode (hufCode 173) s

/-- HUF_174 (R141, R143): the code `11111111111111111101011`. -/
def execHuf174 (s : State) : Host.Outcome State Fault Refusal := execCode (hufCode 174) s

/-- HUF_175 (R141, R143): the code `11111111111111111101100`. -/
def execHuf175 (s : State) : Host.Outcome State Fault Refusal := execCode (hufCode 175) s

/-- HUF_176 (R141, R143): the code `111111111111111100000`. -/
def execHuf176 (s : State) : Host.Outcome State Fault Refusal := execCode (hufCode 176) s

/-- HUF_177 (R141, R143): the code `111111111111111100001`. -/
def execHuf177 (s : State) : Host.Outcome State Fault Refusal := execCode (hufCode 177) s

/-- HUF_178 (R141, R143): the code `1111111111111111100000`. -/
def execHuf178 (s : State) : Host.Outcome State Fault Refusal := execCode (hufCode 178) s

/-- HUF_179 (R141, R143): the code `111111111111111100010`. -/
def execHuf179 (s : State) : Host.Outcome State Fault Refusal := execCode (hufCode 179) s

/-- HUF_180 (R141, R143): the code `11111111111111111101101`. -/
def execHuf180 (s : State) : Host.Outcome State Fault Refusal := execCode (hufCode 180) s

/-- HUF_181 (R141, R143): the code `1111111111111111100001`. -/
def execHuf181 (s : State) : Host.Outcome State Fault Refusal := execCode (hufCode 181) s

/-- HUF_182 (R141, R143): the code `11111111111111111101110`. -/
def execHuf182 (s : State) : Host.Outcome State Fault Refusal := execCode (hufCode 182) s

/-- HUF_183 (R141, R143): the code `11111111111111111101111`. -/
def execHuf183 (s : State) : Host.Outcome State Fault Refusal := execCode (hufCode 183) s

/-- HUF_184 (R141, R143): the code `11111111111111101010`. -/
def execHuf184 (s : State) : Host.Outcome State Fault Refusal := execCode (hufCode 184) s

/-- HUF_185 (R141, R143): the code `1111111111111111100010`. -/
def execHuf185 (s : State) : Host.Outcome State Fault Refusal := execCode (hufCode 185) s

/-- HUF_186 (R141, R143): the code `1111111111111111100011`. -/
def execHuf186 (s : State) : Host.Outcome State Fault Refusal := execCode (hufCode 186) s

/-- HUF_187 (R141, R143): the code `1111111111111111100100`. -/
def execHuf187 (s : State) : Host.Outcome State Fault Refusal := execCode (hufCode 187) s

/-- HUF_188 (R141, R143): the code `11111111111111111110000`. -/
def execHuf188 (s : State) : Host.Outcome State Fault Refusal := execCode (hufCode 188) s

/-- HUF_189 (R141, R143): the code `1111111111111111100101`. -/
def execHuf189 (s : State) : Host.Outcome State Fault Refusal := execCode (hufCode 189) s

/-- HUF_190 (R141, R143): the code `1111111111111111100110`. -/
def execHuf190 (s : State) : Host.Outcome State Fault Refusal := execCode (hufCode 190) s

/-- HUF_191 (R141, R143): the code `11111111111111111110001`. -/
def execHuf191 (s : State) : Host.Outcome State Fault Refusal := execCode (hufCode 191) s

/-- HUF_192 (R141, R143): the code `11111111111111111111100000`. -/
def execHuf192 (s : State) : Host.Outcome State Fault Refusal := execCode (hufCode 192) s

/-- HUF_193 (R141, R143): the code `11111111111111111111100001`. -/
def execHuf193 (s : State) : Host.Outcome State Fault Refusal := execCode (hufCode 193) s

/-- HUF_194 (R141, R143): the code `11111111111111101011`. -/
def execHuf194 (s : State) : Host.Outcome State Fault Refusal := execCode (hufCode 194) s

/-- HUF_195 (R141, R143): the code `1111111111111110001`. -/
def execHuf195 (s : State) : Host.Outcome State Fault Refusal := execCode (hufCode 195) s

/-- HUF_196 (R141, R143): the code `1111111111111111100111`. -/
def execHuf196 (s : State) : Host.Outcome State Fault Refusal := execCode (hufCode 196) s

/-- HUF_197 (R141, R143): the code `11111111111111111110010`. -/
def execHuf197 (s : State) : Host.Outcome State Fault Refusal := execCode (hufCode 197) s

/-- HUF_198 (R141, R143): the code `1111111111111111101000`. -/
def execHuf198 (s : State) : Host.Outcome State Fault Refusal := execCode (hufCode 198) s

/-- HUF_199 (R141, R143): the code `1111111111111111111101100`. -/
def execHuf199 (s : State) : Host.Outcome State Fault Refusal := execCode (hufCode 199) s

/-- HUF_200 (R141, R143): the code `11111111111111111111100010`. -/
def execHuf200 (s : State) : Host.Outcome State Fault Refusal := execCode (hufCode 200) s

/-- HUF_201 (R141, R143): the code `11111111111111111111100011`. -/
def execHuf201 (s : State) : Host.Outcome State Fault Refusal := execCode (hufCode 201) s

/-- HUF_202 (R141, R143): the code `11111111111111111111100100`. -/
def execHuf202 (s : State) : Host.Outcome State Fault Refusal := execCode (hufCode 202) s

/-- HUF_203 (R141, R143): the code `111111111111111111111011110`. -/
def execHuf203 (s : State) : Host.Outcome State Fault Refusal := execCode (hufCode 203) s

/-- HUF_204 (R141, R143): the code `111111111111111111111011111`. -/
def execHuf204 (s : State) : Host.Outcome State Fault Refusal := execCode (hufCode 204) s

/-- HUF_205 (R141, R143): the code `11111111111111111111100101`. -/
def execHuf205 (s : State) : Host.Outcome State Fault Refusal := execCode (hufCode 205) s

/-- HUF_206 (R141, R143): the code `111111111111111111110001`. -/
def execHuf206 (s : State) : Host.Outcome State Fault Refusal := execCode (hufCode 206) s

/-- HUF_207 (R141, R143): the code `1111111111111111111101101`. -/
def execHuf207 (s : State) : Host.Outcome State Fault Refusal := execCode (hufCode 207) s

/-- HUF_208 (R141, R143): the code `1111111111111110010`. -/
def execHuf208 (s : State) : Host.Outcome State Fault Refusal := execCode (hufCode 208) s

/-- HUF_209 (R141, R143): the code `111111111111111100011`. -/
def execHuf209 (s : State) : Host.Outcome State Fault Refusal := execCode (hufCode 209) s

/-- HUF_210 (R141, R143): the code `11111111111111111111100110`. -/
def execHuf210 (s : State) : Host.Outcome State Fault Refusal := execCode (hufCode 210) s

/-- HUF_211 (R141, R143): the code `111111111111111111111100000`. -/
def execHuf211 (s : State) : Host.Outcome State Fault Refusal := execCode (hufCode 211) s

/-- HUF_212 (R141, R143): the code `111111111111111111111100001`. -/
def execHuf212 (s : State) : Host.Outcome State Fault Refusal := execCode (hufCode 212) s

/-- HUF_213 (R141, R143): the code `11111111111111111111100111`. -/
def execHuf213 (s : State) : Host.Outcome State Fault Refusal := execCode (hufCode 213) s

/-- HUF_214 (R141, R143): the code `111111111111111111111100010`. -/
def execHuf214 (s : State) : Host.Outcome State Fault Refusal := execCode (hufCode 214) s

/-- HUF_215 (R141, R143): the code `111111111111111111110010`. -/
def execHuf215 (s : State) : Host.Outcome State Fault Refusal := execCode (hufCode 215) s

/-- HUF_216 (R141, R143): the code `111111111111111100100`. -/
def execHuf216 (s : State) : Host.Outcome State Fault Refusal := execCode (hufCode 216) s

/-- HUF_217 (R141, R143): the code `111111111111111100101`. -/
def execHuf217 (s : State) : Host.Outcome State Fault Refusal := execCode (hufCode 217) s

/-- HUF_218 (R141, R143): the code `11111111111111111111101000`. -/
def execHuf218 (s : State) : Host.Outcome State Fault Refusal := execCode (hufCode 218) s

/-- HUF_219 (R141, R143): the code `11111111111111111111101001`. -/
def execHuf219 (s : State) : Host.Outcome State Fault Refusal := execCode (hufCode 219) s

/-- HUF_220 (R141, R143): the code `1111111111111111111111111101`. -/
def execHuf220 (s : State) : Host.Outcome State Fault Refusal := execCode (hufCode 220) s

/-- HUF_221 (R141, R143): the code `111111111111111111111100011`. -/
def execHuf221 (s : State) : Host.Outcome State Fault Refusal := execCode (hufCode 221) s

/-- HUF_222 (R141, R143): the code `111111111111111111111100100`. -/
def execHuf222 (s : State) : Host.Outcome State Fault Refusal := execCode (hufCode 222) s

/-- HUF_223 (R141, R143): the code `111111111111111111111100101`. -/
def execHuf223 (s : State) : Host.Outcome State Fault Refusal := execCode (hufCode 223) s

/-- HUF_224 (R141, R143): the code `11111111111111101100`. -/
def execHuf224 (s : State) : Host.Outcome State Fault Refusal := execCode (hufCode 224) s

/-- HUF_225 (R141, R143): the code `111111111111111111110011`. -/
def execHuf225 (s : State) : Host.Outcome State Fault Refusal := execCode (hufCode 225) s

/-- HUF_226 (R141, R143): the code `11111111111111101101`. -/
def execHuf226 (s : State) : Host.Outcome State Fault Refusal := execCode (hufCode 226) s

/-- HUF_227 (R141, R143): the code `111111111111111100110`. -/
def execHuf227 (s : State) : Host.Outcome State Fault Refusal := execCode (hufCode 227) s

/-- HUF_228 (R141, R143): the code `1111111111111111101001`. -/
def execHuf228 (s : State) : Host.Outcome State Fault Refusal := execCode (hufCode 228) s

/-- HUF_229 (R141, R143): the code `111111111111111100111`. -/
def execHuf229 (s : State) : Host.Outcome State Fault Refusal := execCode (hufCode 229) s

/-- HUF_230 (R141, R143): the code `111111111111111101000`. -/
def execHuf230 (s : State) : Host.Outcome State Fault Refusal := execCode (hufCode 230) s

/-- HUF_231 (R141, R143): the code `11111111111111111110011`. -/
def execHuf231 (s : State) : Host.Outcome State Fault Refusal := execCode (hufCode 231) s

/-- HUF_232 (R141, R143): the code `1111111111111111101010`. -/
def execHuf232 (s : State) : Host.Outcome State Fault Refusal := execCode (hufCode 232) s

/-- HUF_233 (R141, R143): the code `1111111111111111101011`. -/
def execHuf233 (s : State) : Host.Outcome State Fault Refusal := execCode (hufCode 233) s

/-- HUF_234 (R141, R143): the code `1111111111111111111101110`. -/
def execHuf234 (s : State) : Host.Outcome State Fault Refusal := execCode (hufCode 234) s

/-- HUF_235 (R141, R143): the code `1111111111111111111101111`. -/
def execHuf235 (s : State) : Host.Outcome State Fault Refusal := execCode (hufCode 235) s

/-- HUF_236 (R141, R143): the code `111111111111111111110100`. -/
def execHuf236 (s : State) : Host.Outcome State Fault Refusal := execCode (hufCode 236) s

/-- HUF_237 (R141, R143): the code `111111111111111111110101`. -/
def execHuf237 (s : State) : Host.Outcome State Fault Refusal := execCode (hufCode 237) s

/-- HUF_238 (R141, R143): the code `11111111111111111111101010`. -/
def execHuf238 (s : State) : Host.Outcome State Fault Refusal := execCode (hufCode 238) s

/-- HUF_239 (R141, R143): the code `11111111111111111110100`. -/
def execHuf239 (s : State) : Host.Outcome State Fault Refusal := execCode (hufCode 239) s

/-- HUF_240 (R141, R143): the code `11111111111111111111101011`. -/
def execHuf240 (s : State) : Host.Outcome State Fault Refusal := execCode (hufCode 240) s

/-- HUF_241 (R141, R143): the code `111111111111111111111100110`. -/
def execHuf241 (s : State) : Host.Outcome State Fault Refusal := execCode (hufCode 241) s

/-- HUF_242 (R141, R143): the code `11111111111111111111101100`. -/
def execHuf242 (s : State) : Host.Outcome State Fault Refusal := execCode (hufCode 242) s

/-- HUF_243 (R141, R143): the code `11111111111111111111101101`. -/
def execHuf243 (s : State) : Host.Outcome State Fault Refusal := execCode (hufCode 243) s

/-- HUF_244 (R141, R143): the code `111111111111111111111100111`. -/
def execHuf244 (s : State) : Host.Outcome State Fault Refusal := execCode (hufCode 244) s

/-- HUF_245 (R141, R143): the code `111111111111111111111101000`. -/
def execHuf245 (s : State) : Host.Outcome State Fault Refusal := execCode (hufCode 245) s

/-- HUF_246 (R141, R143): the code `111111111111111111111101001`. -/
def execHuf246 (s : State) : Host.Outcome State Fault Refusal := execCode (hufCode 246) s

/-- HUF_247 (R141, R143): the code `111111111111111111111101010`. -/
def execHuf247 (s : State) : Host.Outcome State Fault Refusal := execCode (hufCode 247) s

/-- HUF_248 (R141, R143): the code `111111111111111111111101011`. -/
def execHuf248 (s : State) : Host.Outcome State Fault Refusal := execCode (hufCode 248) s

/-- HUF_249 (R141, R143): the code `1111111111111111111111111110`. -/
def execHuf249 (s : State) : Host.Outcome State Fault Refusal := execCode (hufCode 249) s

/-- HUF_250 (R141, R143): the code `111111111111111111111101100`. -/
def execHuf250 (s : State) : Host.Outcome State Fault Refusal := execCode (hufCode 250) s

/-- HUF_251 (R141, R143): the code `111111111111111111111101101`. -/
def execHuf251 (s : State) : Host.Outcome State Fault Refusal := execCode (hufCode 251) s

/-- HUF_252 (R141, R143): the code `111111111111111111111101110`. -/
def execHuf252 (s : State) : Host.Outcome State Fault Refusal := execCode (hufCode 252) s

/-- HUF_253 (R141, R143): the code `111111111111111111111101111`. -/
def execHuf253 (s : State) : Host.Outcome State Fault Refusal := execCode (hufCode 253) s

/-- HUF_254 (R141, R143): the code `111111111111111111111110000`. -/
def execHuf254 (s : State) : Host.Outcome State Fault Refusal := execCode (hufCode 254) s

/-- HUF_255 (R141, R143): the code `11111111111111111111101110`. -/
def execHuf255 (s : State) : Host.Outcome State Fault Refusal := execCode (hufCode 255) s

/-- HUF_EOS (R145): the code `111111111111111111111111111111`. -/
def execHufEos (s : State) : Host.Outcome State Fault Refusal := execCode (hufCode 256) s

end Sys2Proof.Machine
end

