-- ==== Sys2Proof/Machine/Integer.lean ====
section
/-!
DEFINITION. The prefixed-integer decoder (spec 43_integer.md): IntCore (R181 to R184) and the command DECINT (R180, R185).
-/

namespace Sys2Proof.Machine

/-- The loop of `IntCore` (R181): `acc` and `shift` are the working registers (10_state.md R38), `count` the bytes consumed so
far. Each byte is consumed before it is examined for overflow, overflow before its bit 7 (R206). `fuel` is the number of
bytes of IN from `pos` on: a byte that exists finds `fuel` positive. -/
def intLoop : Nat → Nat → Nat → Nat → State → Proc (Nat × Nat)
  | 0, _, _, _, s =>
    match s.peek with
    | .endMarker => .raised .intTruncated s
    | .byte _ | .missing => .fault .noSuchInputByte
  | fuel + 1, acc, shift, count, s =>
    match s.peek with
    | .endMarker => .raised .intTruncated s
    | .missing => .fault .noSuchInputByte
    | .byte b =>
      let term := payload b * 128 ^ shift
      if payload b ≠ 0 ∧ (10 ≤ shift ∨ Config.valMax < acc + term) then .raised .intOverflow (s.advance 1)
      else if moreFlag b then intLoop fuel (acc + term) (min (shift + 1) 10) (count + 1) (s.advance 1)
      else .done (acc + term, count + 1) (s.advance 1)

/-- `IntCore(N)` (R181): the value and the number of bytes consumed. -/
def intCore (n : Nat) (s : State) : Proc (Nat × Nat) :=
  match s.peek with
  | .endMarker => .raised .intTruncated s
  | .missing => .fault .noSuchInputByte
  | .byte b =>
    if prefixField n b < fullPrefix n then .done (prefixField n b, 1) (s.advance 1)
    else
      let s' := s.advance 1
      intLoop (s'.inp.len.toNat - s'.pos.toNat) (fullPrefix n) 0 1 s'

/-- DECINT (R180): an open context is ILLEGAL_COMMAND, then N outside 1 to 8 is BAD_PREFIX_SIZE (R185, R206), then the
integer. -/
def execDecint (n : Nat) (s : State) : Host.Outcome State Fault Refusal :=
  unlessError (fun s =>
    if s.isOpen then .next (s.raiseError .illegalCommand)
    else if legalPrefixSize n then (intCore n s).commit fun r s => s.setResult .value r.1 r.2
    else .next (s.raiseError .badPrefixSize)) s

end Sys2Proof.Machine
end

