-- ==== Sys2Proof/Machine/StringLiteral.lean ====
section
/-!
DEFINITION. The string-literal decoder (spec 42_string_literal.md): the Huffman body (R160, R165), the raw copy (R164) and
the commands DECHUF (R161) and DECSTR (R162).
-/

namespace Sys2Proof.Machine

/-- The loop of `HufBody` (R160): at most `n` more symbols, each appended to OUT, until END. `n` is `bound - olen`. -/
def bodyLoop : Nat → State → Proc Unit
  | 0, s => .done () s
  | n + 1, s =>
    (readNext s).bind fun r s' =>
      match r with
      | some v => bodyLoop n (s'.outAppend v)
      | none => .done () s'

/-- The confirming readNext and the end of the context (R160, R163). -/
def confirmEnd (s : State) : Proc Unit :=
  (readNext s).bind fun r s' =>
    match r with
    | none => .done () s'.closeContext
    | some _ => .raised .hufBound s'

/-- `HufBody(L)` (R160). -/
def hufBody (len : Nat) (s : State) : Proc Unit :=
  (openContext len s).bind fun _ s1 =>
    (bodyLoop (outputBound len) s1.clearOut).bind fun _ s2 => confirmEnd s2

/-- The bytes of `RawCopy`: `n` bytes of IN from address `a` on, in order (R164). -/
def copyLoop : Nat → Nat → State → Proc Unit
  | 0, _, s => .done () s
  | n + 1, a, s =>
    match s.inp.read a with
    | some b => copyLoop n (a + 1) (s.outAppend b)
    | none => .fault .noSuchInputByte

/-- `RawCopy(L)` with the length check DECSTR makes before it (R162, R164). -/
def rawBody (len : Nat) (s : State) : Proc Unit :=
  if s.bytesLeft < len then .raised .strTruncated s
  else (copyLoop len s.pos.toNat s).bind fun _ s' => .done () (s'.advance len)

/-- DECHUF (R161). -/
def execDechuf (s : State) : Host.Outcome State Fault Refusal :=
  unlessError (fun s =>
    if s.isOpen then .next (s.raiseError .illegalCommand)
    else (hufBody (byteLength s) s.clearOut).commit fun _ s' => s'.setResult .string (byteLength s) (byteLength s)) s

/-- The rest of a string field whose first byte is `b`: the length with N = 7, then the body, Huffman or raw by the flag
(R162). The length `L` and the bytes of the length integer. -/
def stringField (b : Byte) (s : State) : Proc (Nat × Nat) :=
  (intCore Config.strN s).bind fun r s' =>
    (if huffmanFlag b then hufBody r.1 s' else rawBody r.1 s').bind fun _ s'' => .done r s''

/-- DECSTR (R162): OUT is emptied, H latched from the first byte, the length decoded, then the body, raw or Huffman. -/
def execDecstr (s : State) : Host.Outcome State Fault Refusal :=
  unlessError (fun s =>
    if s.isOpen then .next (s.raiseError .illegalCommand)
    else
      let s1 := s.clearOut
      match s1.peek with
      | .endMarker => .next (s1.raiseError .intTruncated)
      | .missing => .fault .noSuchInputByte
      | .byte b => (stringField b (s1.setH (huffmanFlag b))).commit fun r s3 =>
          s3.setResult .string r.1 (r.2 + r.1)) s

end Sys2Proof.Machine
end

