-- ==== Sys2Proof/Machine/Dispatch.lean ====
section
/-!
DEFINITION. One arm per constructor of Instr: the instruction's own meaning.
-/

namespace Sys2Proof.Machine

/-- The meaning of an instruction: the six commands of spec 30_encoding.md R91 and the 257 code words of R99. -/
def exec (i : Instr) (s : State) : Host.Outcome State Fault Refusal :=
  match i with
  | .decint n => Sys2Proof.Machine.execDecint n s
  | .decstr => Sys2Proof.Machine.execDecstr s
  | .dechuf => Sys2Proof.Machine.execDechuf s
  | .bropen => Sys2Proof.Machine.execBropen s
  | .rdsym => Sys2Proof.Machine.execRdsym s
  | .brclose => Sys2Proof.Machine.execBrclose s
  | .huf0 => Sys2Proof.Machine.execHuf0 s
  | .huf1 => Sys2Proof.Machine.execHuf1 s
  | .huf2 => Sys2Proof.Machine.execHuf2 s
  | .huf3 => Sys2Proof.Machine.execHuf3 s
  | .huf4 => Sys2Proof.Machine.execHuf4 s
  | .huf5 => Sys2Proof.Machine.execHuf5 s
  | .huf6 => Sys2Proof.Machine.execHuf6 s
  | .huf7 => Sys2Proof.Machine.execHuf7 s
  | .huf8 => Sys2Proof.Machine.execHuf8 s
  | .huf9 => Sys2Proof.Machine.execHuf9 s
  | .huf10 => Sys2Proof.Machine.execHuf10 s
  | .huf11 => Sys2Proof.Machine.execHuf11 s
  | .huf12 => Sys2Proof.Machine.execHuf12 s
  | .huf13 => Sys2Proof.Machine.execHuf13 s
  | .huf14 => Sys2Proof.Machine.execHuf14 s
  | .huf15 => Sys2Proof.Machine.execHuf15 s
  | .huf16 => Sys2Proof.Machine.execHuf16 s
  | .huf17 => Sys2Proof.Machine.execHuf17 s
  | .huf18 => Sys2Proof.Machine.execHuf18 s
  | .huf19 => Sys2Proof.Machine.execHuf19 s
  | .huf20 => Sys2Proof.Machine.execHuf20 s
  | .huf21 => Sys2Proof.Machine.execHuf21 s
  | .huf22 => Sys2Proof.Machine.execHuf22 s
  | .huf23 => Sys2Proof.Machine.execHuf23 s
  | .huf24 => Sys2Proof.Machine.execHuf24 s
  | .huf25 => Sys2Proof.Machine.execHuf25 s
  | .huf26 => Sys2Proof.Machine.execHuf26 s
  | .huf27 => Sys2Proof.Machine.execHuf27 s
  | .huf28 => Sys2Proof.Machine.execHuf28 s
  | .huf29 => Sys2Proof.Machine.execHuf29 s
  | .huf30 => Sys2Proof.Machine.execHuf30 s
  | .huf31 => Sys2Proof.Machine.execHuf31 s
  | .huf32 => Sys2Proof.Machine.execHuf32 s
  | .huf33 => Sys2Proof.Machine.execHuf33 s
  | .huf34 => Sys2Proof.Machine.execHuf34 s
  | .huf35 => Sys2Proof.Machine.execHuf35 s
  | .huf36 => Sys2Proof.Machine.execHuf36 s
  | .huf37 => Sys2Proof.Machine.execHuf37 s
  | .huf38 => Sys2Proof.Machine.execHuf38 s
  | .huf39 => Sys2Proof.Machine.execHuf39 s
  | .huf40 => Sys2Proof.Machine.execHuf40 s
  | .huf41 => Sys2Proof.Machine.execHuf41 s
  | .huf42 => Sys2Proof.Machine.execHuf42 s
  | .huf43 => Sys2Proof.Machine.execHuf43 s
  | .huf44 => Sys2Proof.Machine.execHuf44 s
  | .huf45 => Sys2Proof.Machine.execHuf45 s
  | .huf46 => Sys2Proof.Machine.execHuf46 s
  | .huf47 => Sys2Proof.Machine.execHuf47 s
  | .huf48 => Sys2Proof.Machine.execHuf48 s
  | .huf49 => Sys2Proof.Machine.execHuf49 s
  | .huf50 => Sys2Proof.Machine.execHuf50 s
  | .huf51 => Sys2Proof.Machine.execHuf51 s
  | .huf52 => Sys2Proof.Machine.execHuf52 s
  | .huf53 => Sys2Proof.Machine.execHuf53 s
  | .huf54 => Sys2Proof.Machine.execHuf54 s
  | .huf55 => Sys2Proof.Machine.execHuf55 s
  | .huf56 => Sys2Proof.Machine.execHuf56 s
  | .huf57 => Sys2Proof.Machine.execHuf57 s
  | .huf58 => Sys2Proof.Machine.execHuf58 s
  | .huf59 => Sys2Proof.Machine.execHuf59 s
  | .huf60 => Sys2Proof.Machine.execHuf60 s
  | .huf61 => Sys2Proof.Machine.execHuf61 s
  | .huf62 => Sys2Proof.Machine.execHuf62 s
  | .huf63 => Sys2Proof.Machine.execHuf63 s
  | .huf64 => Sys2Proof.Machine.execHuf64 s
  | .huf65 => Sys2Proof.Machine.execHuf65 s
  | .huf66 => Sys2Proof.Machine.execHuf66 s
  | .huf67 => Sys2Proof.Machine.execHuf67 s
  | .huf68 => Sys2Proof.Machine.execHuf68 s
  | .huf69 => Sys2Proof.Machine.execHuf69 s
  | .huf70 => Sys2Proof.Machine.execHuf70 s
  | .huf71 => Sys2Proof.Machine.execHuf71 s
  | .huf72 => Sys2Proof.Machine.execHuf72 s
  | .huf73 => Sys2Proof.Machine.execHuf73 s
  | .huf74 => Sys2Proof.Machine.execHuf74 s
  | .huf75 => Sys2Proof.Machine.execHuf75 s
  | .huf76 => Sys2Proof.Machine.execHuf76 s
  | .huf77 => Sys2Proof.Machine.execHuf77 s
  | .huf78 => Sys2Proof.Machine.execHuf78 s
  | .huf79 => Sys2Proof.Machine.execHuf79 s
  | .huf80 => Sys2Proof.Machine.execHuf80 s
  | .huf81 => Sys2Proof.Machine.execHuf81 s
  | .huf82 => Sys2Proof.Machine.execHuf82 s
  | .huf83 => Sys2Proof.Machine.execHuf83 s
  | .huf84 => Sys2Proof.Machine.execHuf84 s
  | .huf85 => Sys2Proof.Machine.execHuf85 s
  | .huf86 => Sys2Proof.Machine.execHuf86 s
  | .huf87 => Sys2Proof.Machine.execHuf87 s
  | .huf88 => Sys2Proof.Machine.execHuf88 s
  | .huf89 => Sys2Proof.Machine.execHuf89 s
  | .huf90 => Sys2Proof.Machine.execHuf90 s
  | .huf91 => Sys2Proof.Machine.execHuf91 s
  | .huf92 => Sys2Proof.Machine.execHuf92 s
  | .huf93 => Sys2Proof.Machine.execHuf93 s
  | .huf94 => Sys2Proof.Machine.execHuf94 s
  | .huf95 => Sys2Proof.Machine.execHuf95 s
  | .huf96 => Sys2Proof.Machine.execHuf96 s
  | .huf97 => Sys2Proof.Machine.execHuf97 s
  | .huf98 => Sys2Proof.Machine.execHuf98 s
  | .huf99 => Sys2Proof.Machine.execHuf99 s
  | .huf100 => Sys2Proof.Machine.execHuf100 s
  | .huf101 => Sys2Proof.Machine.execHuf101 s
  | .huf102 => Sys2Proof.Machine.execHuf102 s
  | .huf103 => Sys2Proof.Machine.execHuf103 s
  | .huf104 => Sys2Proof.Machine.execHuf104 s
  | .huf105 => Sys2Proof.Machine.execHuf105 s
  | .huf106 => Sys2Proof.Machine.execHuf106 s
  | .huf107 => Sys2Proof.Machine.execHuf107 s
  | .huf108 => Sys2Proof.Machine.execHuf108 s
  | .huf109 => Sys2Proof.Machine.execHuf109 s
  | .huf110 => Sys2Proof.Machine.execHuf110 s
  | .huf111 => Sys2Proof.Machine.execHuf111 s
  | .huf112 => Sys2Proof.Machine.execHuf112 s
  | .huf113 => Sys2Proof.Machine.execHuf113 s
  | .huf114 => Sys2Proof.Machine.execHuf114 s
  | .huf115 => Sys2Proof.Machine.execHuf115 s
  | .huf116 => Sys2Proof.Machine.execHuf116 s
  | .huf117 => Sys2Proof.Machine.execHuf117 s
  | .huf118 => Sys2Proof.Machine.execHuf118 s
  | .huf119 => Sys2Proof.Machine.execHuf119 s
  | .huf120 => Sys2Proof.Machine.execHuf120 s
  | .huf121 => Sys2Proof.Machine.execHuf121 s
  | .huf122 => Sys2Proof.Machine.execHuf122 s
  | .huf123 => Sys2Proof.Machine.execHuf123 s
  | .huf124 => Sys2Proof.Machine.execHuf124 s
  | .huf125 => Sys2Proof.Machine.execHuf125 s
  | .huf126 => Sys2Proof.Machine.execHuf126 s
  | .huf127 => Sys2Proof.Machine.execHuf127 s
  | .huf128 => Sys2Proof.Machine.execHuf128 s
  | .huf129 => Sys2Proof.Machine.execHuf129 s
  | .huf130 => Sys2Proof.Machine.execHuf130 s
  | .huf131 => Sys2Proof.Machine.execHuf131 s
  | .huf132 => Sys2Proof.Machine.execHuf132 s
  | .huf133 => Sys2Proof.Machine.execHuf133 s
  | .huf134 => Sys2Proof.Machine.execHuf134 s
  | .huf135 => Sys2Proof.Machine.execHuf135 s
  | .huf136 => Sys2Proof.Machine.execHuf136 s
  | .huf137 => Sys2Proof.Machine.execHuf137 s
  | .huf138 => Sys2Proof.Machine.execHuf138 s
  | .huf139 => Sys2Proof.Machine.execHuf139 s
  | .huf140 => Sys2Proof.Machine.execHuf140 s
  | .huf141 => Sys2Proof.Machine.execHuf141 s
  | .huf142 => Sys2Proof.Machine.execHuf142 s
  | .huf143 => Sys2Proof.Machine.execHuf143 s
  | .huf144 => Sys2Proof.Machine.execHuf144 s
  | .huf145 => Sys2Proof.Machine.execHuf145 s
  | .huf146 => Sys2Proof.Machine.execHuf146 s
  | .huf147 => Sys2Proof.Machine.execHuf147 s
  | .huf148 => Sys2Proof.Machine.execHuf148 s
  | .huf149 => Sys2Proof.Machine.execHuf149 s
  | .huf150 => Sys2Proof.Machine.execHuf150 s
  | .huf151 => Sys2Proof.Machine.execHuf151 s
  | .huf152 => Sys2Proof.Machine.execHuf152 s
  | .huf153 => Sys2Proof.Machine.execHuf153 s
  | .huf154 => Sys2Proof.Machine.execHuf154 s
  | .huf155 => Sys2Proof.Machine.execHuf155 s
  | .huf156 => Sys2Proof.Machine.execHuf156 s
  | .huf157 => Sys2Proof.Machine.execHuf157 s
  | .huf158 => Sys2Proof.Machine.execHuf158 s
  | .huf159 => Sys2Proof.Machine.execHuf159 s
  | .huf160 => Sys2Proof.Machine.execHuf160 s
  | .huf161 => Sys2Proof.Machine.execHuf161 s
  | .huf162 => Sys2Proof.Machine.execHuf162 s
  | .huf163 => Sys2Proof.Machine.execHuf163 s
  | .huf164 => Sys2Proof.Machine.execHuf164 s
  | .huf165 => Sys2Proof.Machine.execHuf165 s
  | .huf166 => Sys2Proof.Machine.execHuf166 s
  | .huf167 => Sys2Proof.Machine.execHuf167 s
  | .huf168 => Sys2Proof.Machine.execHuf168 s
  | .huf169 => Sys2Proof.Machine.execHuf169 s
  | .huf170 => Sys2Proof.Machine.execHuf170 s
  | .huf171 => Sys2Proof.Machine.execHuf171 s
  | .huf172 => Sys2Proof.Machine.execHuf172 s
  | .huf173 => Sys2Proof.Machine.execHuf173 s
  | .huf174 => Sys2Proof.Machine.execHuf174 s
  | .huf175 => Sys2Proof.Machine.execHuf175 s
  | .huf176 => Sys2Proof.Machine.execHuf176 s
  | .huf177 => Sys2Proof.Machine.execHuf177 s
  | .huf178 => Sys2Proof.Machine.execHuf178 s
  | .huf179 => Sys2Proof.Machine.execHuf179 s
  | .huf180 => Sys2Proof.Machine.execHuf180 s
  | .huf181 => Sys2Proof.Machine.execHuf181 s
  | .huf182 => Sys2Proof.Machine.execHuf182 s
  | .huf183 => Sys2Proof.Machine.execHuf183 s
  | .huf184 => Sys2Proof.Machine.execHuf184 s
  | .huf185 => Sys2Proof.Machine.execHuf185 s
  | .huf186 => Sys2Proof.Machine.execHuf186 s
  | .huf187 => Sys2Proof.Machine.execHuf187 s
  | .huf188 => Sys2Proof.Machine.execHuf188 s
  | .huf189 => Sys2Proof.Machine.execHuf189 s
  | .huf190 => Sys2Proof.Machine.execHuf190 s
  | .huf191 => Sys2Proof.Machine.execHuf191 s
  | .huf192 => Sys2Proof.Machine.execHuf192 s
  | .huf193 => Sys2Proof.Machine.execHuf193 s
  | .huf194 => Sys2Proof.Machine.execHuf194 s
  | .huf195 => Sys2Proof.Machine.execHuf195 s
  | .huf196 => Sys2Proof.Machine.execHuf196 s
  | .huf197 => Sys2Proof.Machine.execHuf197 s
  | .huf198 => Sys2Proof.Machine.execHuf198 s
  | .huf199 => Sys2Proof.Machine.execHuf199 s
  | .huf200 => Sys2Proof.Machine.execHuf200 s
  | .huf201 => Sys2Proof.Machine.execHuf201 s
  | .huf202 => Sys2Proof.Machine.execHuf202 s
  | .huf203 => Sys2Proof.Machine.execHuf203 s
  | .huf204 => Sys2Proof.Machine.execHuf204 s
  | .huf205 => Sys2Proof.Machine.execHuf205 s
  | .huf206 => Sys2Proof.Machine.execHuf206 s
  | .huf207 => Sys2Proof.Machine.execHuf207 s
  | .huf208 => Sys2Proof.Machine.execHuf208 s
  | .huf209 => Sys2Proof.Machine.execHuf209 s
  | .huf210 => Sys2Proof.Machine.execHuf210 s
  | .huf211 => Sys2Proof.Machine.execHuf211 s
  | .huf212 => Sys2Proof.Machine.execHuf212 s
  | .huf213 => Sys2Proof.Machine.execHuf213 s
  | .huf214 => Sys2Proof.Machine.execHuf214 s
  | .huf215 => Sys2Proof.Machine.execHuf215 s
  | .huf216 => Sys2Proof.Machine.execHuf216 s
  | .huf217 => Sys2Proof.Machine.execHuf217 s
  | .huf218 => Sys2Proof.Machine.execHuf218 s
  | .huf219 => Sys2Proof.Machine.execHuf219 s
  | .huf220 => Sys2Proof.Machine.execHuf220 s
  | .huf221 => Sys2Proof.Machine.execHuf221 s
  | .huf222 => Sys2Proof.Machine.execHuf222 s
  | .huf223 => Sys2Proof.Machine.execHuf223 s
  | .huf224 => Sys2Proof.Machine.execHuf224 s
  | .huf225 => Sys2Proof.Machine.execHuf225 s
  | .huf226 => Sys2Proof.Machine.execHuf226 s
  | .huf227 => Sys2Proof.Machine.execHuf227 s
  | .huf228 => Sys2Proof.Machine.execHuf228 s
  | .huf229 => Sys2Proof.Machine.execHuf229 s
  | .huf230 => Sys2Proof.Machine.execHuf230 s
  | .huf231 => Sys2Proof.Machine.execHuf231 s
  | .huf232 => Sys2Proof.Machine.execHuf232 s
  | .huf233 => Sys2Proof.Machine.execHuf233 s
  | .huf234 => Sys2Proof.Machine.execHuf234 s
  | .huf235 => Sys2Proof.Machine.execHuf235 s
  | .huf236 => Sys2Proof.Machine.execHuf236 s
  | .huf237 => Sys2Proof.Machine.execHuf237 s
  | .huf238 => Sys2Proof.Machine.execHuf238 s
  | .huf239 => Sys2Proof.Machine.execHuf239 s
  | .huf240 => Sys2Proof.Machine.execHuf240 s
  | .huf241 => Sys2Proof.Machine.execHuf241 s
  | .huf242 => Sys2Proof.Machine.execHuf242 s
  | .huf243 => Sys2Proof.Machine.execHuf243 s
  | .huf244 => Sys2Proof.Machine.execHuf244 s
  | .huf245 => Sys2Proof.Machine.execHuf245 s
  | .huf246 => Sys2Proof.Machine.execHuf246 s
  | .huf247 => Sys2Proof.Machine.execHuf247 s
  | .huf248 => Sys2Proof.Machine.execHuf248 s
  | .huf249 => Sys2Proof.Machine.execHuf249 s
  | .huf250 => Sys2Proof.Machine.execHuf250 s
  | .huf251 => Sys2Proof.Machine.execHuf251 s
  | .huf252 => Sys2Proof.Machine.execHuf252 s
  | .huf253 => Sys2Proof.Machine.execHuf253 s
  | .huf254 => Sys2Proof.Machine.execHuf254 s
  | .huf255 => Sys2Proof.Machine.execHuf255 s
  | .hufEos => Sys2Proof.Machine.execHufEos s

end Sys2Proof.Machine
end

