-- ==== Sys2Proof/Machine/HostPort.lean ====
section
/-!
DEFINITION. The command port and the host's actions (spec 10_state.md R37, 60_exceptions.md R205, 70_reset_and_hazards.md R230),
and the lines of the test-program syntax (30_encoding.md R104) as host actions.
-/

namespace Sys2Proof.Machine

/-- A write to CMD (R205): the word is decoded and the command run; a reserved word is refused or raises. -/
def runCommand (w : Byte) (s : State) : Host.Outcome State Fault Refusal :=
  match decode (.command w) with
  | .ok i => exec i s
  | .error _ => execReserved s

/-- One action of the host on the core. -/
def serve (a : HostAction) (s : State) : Host.Outcome State Fault Refusal :=
  match a with
  | .writeCmd w => runCommand w s
  | .writeArg v => .next (s.setArg v)
  | .writeReadOnly _ _ => .next s
  | .reset input =>
    if input.length < 2 ^ 64 then .next (State.resetWith input s.hostq) else .refused .inputTooLong

/-- The core with the host's oldest pending action, if there is one; without one it is idle and all state survives
(R209, R235). -/
def serveNext (s : State) : Host.Outcome State Fault Refusal :=
  match s.hostq with
  | [] => .next s
  | a :: rest => serve a (s.withQueue rest)

/-- A line of a test program (R104), comments and blank lines aside. -/
inductive AsmLine where
  /-- `.in <hex bytes>`. -/
  | input (bs : List Byte)
  | decint (n : Nat)
  | decstr
  | dechuf (len : Word64)
  | bropen (len : Word64)
  | rdsym
  | brclose
  /-- `.word <hex byte>`. -/
  | word (w : Byte)
  deriving DecidableEq, Repr

/-- What a line makes the host do (R104). -/
def AsmLine.actions : AsmLine → List HostAction
  | .input bs => [.reset bs]
  | .decint n => [.writeCmd (BitVec.ofNat 8 (0x10 + n))]
  | .decstr => [.writeCmd 0x20#8]
  | .dechuf len => [.writeArg len, .writeCmd 0x30#8]
  | .bropen len => [.writeArg len, .writeCmd 0x40#8]
  | .rdsym => [.writeCmd 0x50#8]
  | .brclose => [.writeCmd 0x60#8]
  | .word w => [.writeCmd w]

/-- The host about to carry out a program. -/
def State.withProgram (s : State) (lines : List AsmLine) : State :=
  s.withQueue (s.hostq ++ lines.flatMap AsmLine.actions)

end Sys2Proof.Machine
end

