-- ==== Sys2Proof/Machine/Step.lean ====
section
/-!
DEFINITION. One step of the core: the host's oldest pending action carried out as one atomic transition (spec 00_scope.md R6,
70_reset_and_hazards.md R232 H1), and the placing of one instruction where the next step fetches it.
-/

namespace Sys2Proof.Machine

/-- One step (R6): the next host action, whole. -/
def step (s : State) : Host.Outcome State Fault Refusal := serveNext s

/-- `s` with the instruction of a table word where the next step fetches it: a command word as the host's next write to
CMD, a code window as the next bits of an open context with RDSYM as the next command (log entry 15). -/
def State.withFetchWord (s : State) (nbits w : Nat) : State :=
  if isCommandWord nbits w then s.withCommand (BitVec.ofNat 8 w)
  else s.withCodeWindow (tableWindow nbits w)

end Sys2Proof.Machine
end

