-- ==== Sys2Proof/Machine/Cores.lean ====
section
/-!
DEFINITION. Several cores (spec 60_exceptions.md R213): the product of independent models of one core, each with its own
complete state, IN view and OUT. They share only the constant ROM (20_memory.md R77). Which core steps is the choice of
whoever drives the system.
-/

namespace Sys2Proof.Machine

/-- A system of cores: one state per core. Cores have no identifiers of their own (R213); the index is the model's. -/
abbrev System := List State

/-- Core `k` takes one step and no other core changes; a number that is no core's is no step. -/
def stepCore (k : Nat) (sys : System) : Host.Outcome System Fault Refusal :=
  match sys[k]? with
  | none => .next sys
  | some s =>
    match step s with
    | .next t => .next (sys.set k t)
    | .fault f => .fault f
    | .refused r => .refused r

end Sys2Proof.Machine
end

