-- ==== Sys2Proof/Safety.lean ====
section
/-!
DEFINITION. What a safe run is: the relations between registers that every step keeps (spec 10_state.md R30, with R25, R33
to R35), and the vocabulary the statements use: the tail bits (R27), the integer at `pos` (R93 to R95), the bit cursor
(R30 (e)), the causes a command can raise (60_exceptions.md R202).
-/

namespace Sys2Proof.Machine

/-- The bits consumed since the last completed symbol: they lead from the root to `node`, `tail` is their number
saturated at 8, `ones` says they are all 1 (R27, R28, R29). -/
structure State.TailBits (s : State) (bits : List Bool) : Prop where
  walk : walkFrom root bits = some (.node s.node)
  count : s.tail.toNat = min bits.length 8
  allOnes : s.ones = bits.all id

/-- The BitReader registers at their cleared values (R24). -/
structure State.ReaderCleared (s : State) : Prop where
  cur : s.cur = 0
  mask : s.mask = 0
  node : s.node = root
  tail : s.tail = 0
  ones : s.ones = true

/-- The view lies inside IN (R30 (a)) and the input space has its canonical form. -/
structure State.ViewOk (s : State) : Prop where
  memWf : s.inp.wf = true
  posLim : s.pos.toNat ≤ s.lim.toNat
  limLen : s.lim.toNat ≤ s.inp.len.toNat

/-- The invariants between commands. -/
structure State.Inv (s : State) : Prop where
  /-- R30 (a). -/
  view : s.ViewOk
  /-- R30 (b): no context, no view of its own and no reader state. -/
  closed : s.isOpen = false → s.lim = s.inp.len ∧ s.ReaderCleared
  /-- R30 (c), R26: `mask` is 0 or one-hot. -/
  maskOneHot : s.mask = 0 ∨ ∃ k, k < 8 ∧ s.mask = 1#8 <<< k
  /-- R30 (c). -/
  curCleared : s.mask = 0 → s.cur = 0
  /-- R25: a pending byte is the one last pulled. -/
  curPulled : s.mask ≠ 0 → 1 ≤ s.pos.toNat ∧ s.inp.read (s.pos.toNat - 1) = some s.cur
  /-- R30 (d). -/
  tail : ∃ bits, s.TailBits bits
  /-- R35. -/
  causeErr : s.cause = .none ↔ s.err = false
  /-- R34: ERROR is the result exactly while `err = 1`. -/
  kindErr : s.rKind = .error ↔ s.err = true
  /-- R204, R205: an error leaves no output and no result. -/
  errEmpty : s.err = true → s.out = [] ∧ s.rVal = 0 ∧ s.rCnt = 0
  /-- R34: NONE and END carry zeros. -/
  zeroKinds : s.rKind = .none ∨ s.rKind = .streamEnd → s.rVal = 0 ∧ s.rCnt = 0
  /-- R34: SYMBOL carries a symbol 0 to 255, never EOS. -/
  symbolKind : s.rKind = .symbol → s.rVal.toNat < 256 ∧ s.rCnt = 0

/-- `b` and `cs` are the next bytes of the view and form one integer of prefix size `n` with value `v` (R93 to R95): `b`
alone if its prefix is below `2^n - 1`, else with continuation bytes `cs`, the first of them without flag `more` being
the last; the value fits 64 bits (R183). -/
structure State.IntegerAt (s : State) (n : Nat) (b : Byte) (cs : List Byte) (v : Nat) : Prop where
  bytes : s.inp.bytes s.pos.toNat (1 + cs.length) = b :: cs
  inView : 1 + cs.length ≤ s.bytesLeft
  value :
    (cs = [] ∧ prefixField n b < fullPrefix n ∧ v = prefixField n b) ∨
    (∃ more last, cs = more ++ [last] ∧ prefixField n b = fullPrefix n ∧
      more.all moreFlag = true ∧ moreFlag last = false ∧ v = fullPrefix n + continuationValue 0 cs)
  fits : v ≤ Config.valMax

/-- The bits of the `n` bytes of IN from `pos` on. -/
def State.bodyBits (s : State) (n : Nat) : List Bool := (s.inp.bytes s.pos.toNat n).flatMap byteBits

/-- How many bits of IN lie before the BitReader's cursor (R30 (e)). -/
def State.bitCursor (s : State) : Nat := 8 * s.pos.toNat - unreadBits s.mask

/-- The state with the BitReader's cursor after `c` bits of IN: the byte that holds bit `c` is pulled if the cursor is
inside it (R25, R26). -/
def State.atCursor (s : State) (c : Nat) : State :=
  { s with
    pos := BitVec.ofNat 64 ((c + 7) / 8)
    mask := if c % 8 = 0 then 0#8 else 0x80#8 >>> (c % 8)
    cur := if c % 8 = 0 then 0#8 else (s.inp.read (c / 8)).getD 0#8 }

/-- The state in which a Huffman body of `len` bytes at `pos` has raised HUF_EOS, the EOS code ending after `n` bits of the
body: the context open, the cursor there, the reader at the root (R145, R201, R204). -/
def State.afterEos (s : State) (len n : Nat) : State :=
  ((s.openView len).atCursor (8 * s.pos.toNat + n)).raiseError .hufEos

/-- The state in which a Huffman body of `len` bytes at `pos` has raised HUF_BAD_TAIL with the bits `rest` after its last
symbol, which lead to node `j`: the context open, the view at its end, `node`, `tail` and `ones` describing `rest` (R146,
R201, R204). -/
def State.afterBadTail (s : State) (len : Nat) (rest : List Bool) (j : NodeId) : State :=
  { s.openView len with
    pos := BitVec.ofNat 64 (s.pos.toNat + len), node := j, tail := BitVec.ofNat 4 (min rest.length 8),
    ones := rest.all id }.raiseError .hufBadTail

/-- `t` is what a Huffman body of `len` bytes at the `pos` of `s` ends in when it is no valid one: HUF_EOS if codes of bytes
and then thirty ones begin it, else HUF_BAD_TAIL on what is left after the codes it begins with (R148). -/
structure State.BodyRejected (s : State) (len : Nat) (t : State) : Prop where
  eosIff : t.cause = .hufEos ↔
    ∃ str rest, s.bodyBits len = stringBits str ++ List.replicate 30 true ++ rest
  outcome :
    (∃ str rest, s.bodyBits len = stringBits str ++ List.replicate 30 true ++ rest ∧
      t = s.afterEos len ((stringBits str).length + 30)) ∨
    (∃ str rest j, s.bodyBits len = stringBits str ++ rest ∧ walkFrom root rest = some (.node j) ∧
      t = s.afterBadTail len rest j)

/-- The causes a command or code word can raise (R202; a code word is a read by RDSYM, log entries 5 and 6). -/
def causesOf (i : Instr) : List Cause :=
  match i with
  | .decint _ => [.intTruncated, .intOverflow, .badPrefixSize, .illegalCommand]
  | .decstr => [.intTruncated, .intOverflow, .strTruncated, .hufBadTail, .hufEos, .illegalCommand]
  | .dechuf => [.strTruncated, .hufBadTail, .hufEos, .illegalCommand]
  | .bropen => [.strTruncated, .illegalCommand]
  | .brclose => [.illegalCommand]
  | _ => [.hufBadTail, .hufEos, .illegalCommand]

/-- The host's next action, if any, is not a reset. -/
def State.noResetNext (s : State) : Prop := ∀ input, s.hostq.head? ≠ some (.reset input)

end Sys2Proof.Machine
end

