-- ==== Sys2Proof/Certificates/Slice0/Obligations.lean ====
section
/-!
DEFINITION. The statements about the HPD core for the provers. Each docstring names the rule of spec/ it formalises, or
the log entry a clause rests on. `exec` is one instruction, `step` one host action, `State.Inv` the invariants of
10_state.md R30.
-/

open Sys2Proof Sys2Proof.Machine

/-! ### Encoding and decoding -/

/-- Decoding an encoded well-formed instruction gives it back: DECINT with each of its 16 operands, the other five
commands, and the 257 code words. -/
def Obligations.DecodeInvertsEncode : Prop :=
  ∀ i : Instr, i.wellFormed = true → decode (encode i) = .ok i

/-- A command word that decodes has one meaning: it is the encoding of the instruction it decodes to (R91). -/
def Obligations.CommandWordsHaveOneMeaning : Prop :=
  ∀ (w : Byte) (i : Instr), decode (.command w) = .ok i → i.wellFormed = true ∧ encode i = .command w

/-- Words written out from 30_encoding.md R91 and R99 decode to their instructions, and reserved ones (R92) do not. -/
def Obligations.WrittenOutWordsDecode : Prop :=
  decode (.command 0x15#8) = .ok (.decint 5) ∧ decode (.command 0x10#8) = .ok (.decint 0) ∧
  decode (.command 0x20#8) = .ok .decstr ∧ decode (.command 0x30#8) = .ok .dechuf ∧
  decode (.command 0x40#8) = .ok .bropen ∧ decode (.command 0x50#8) = .ok .rdsym ∧
  decode (.command 0x60#8) = .ok .brclose ∧
  decode (.command 0x00#8) = .error .reservedOp ∧ decode (.command 0x70#8) = .error .reservedOp ∧
  decode (.command 0x21#8) = .error .reservedOperand ∧
  decode (.code [false, false, false, false, false, true]) = .ok .huf48 ∧
  decode (.code [false, false, false, true, true]) = .ok .huf97 ∧
  decode (.code [true, true, true, true, true, false, false, false]) = .ok .huf38 ∧
  decode (.code [true, true, true, true, false, false, true, true]) = .ok .huf120 ∧
  decode (.code (List.replicate 30 true)) = .ok .hufEos ∧
  decode (.code (List.replicate 29 true)) = .error .codeCutShort

/-- R98: each symbol 0 to 256 has one code, of 5 to 30 bits; the code is prefix-free and complete: every bit string of 30
bits or more begins with the code of exactly one row. -/
def Obligations.CodeIsPrefixFreeAndComplete : Prop :=
  (∀ bits : List Bool, Config.maxLen ≤ bits.length → ∃! r : HufRow, r ∈ hufRows ∧ r.bits <+: bits) ∧
  (∀ r ∈ hufRows, r.symbol ≤ Config.eos ∧ Config.minLen ≤ r.bits.length ∧ r.bits.length ≤ Config.maxLen) ∧
  ∀ sym, sym ≤ Config.eos → ∃! r : HufRow, r ∈ hufRows ∧ r.symbol = sym

/-- R101: of the left-aligned 32-bit window of the stream exactly one HUF row satisfies `(window AND mask) = match`, the
mask being `length` ones and the match the code, both left-aligned, and the decoder reads that row's instruction
whatever the bits after the code. -/
def Obligations.WindowMatchesExactlyOneRow : Prop :=
  ∀ w : Nat, w < 2 ^ 32 →
    ∃ r ∈ hufRows, decode (.code (windowBits w)) = .ok r.instr ∧
      ∀ q ∈ hufRows, (w &&& ((2 ^ q.length - 1) <<< (32 - q.length)) = q.code <<< (32 - q.length)) ↔ q = r

/-! ### The tree -/

/-- R121: the tree is the trie of the code table. Following the code of a symbol from the root arrives at the leaf that
holds the symbol, and every bit string that arrives at a leaf is the code of the leaf's symbol. -/
def Obligations.TreeIsTheTrieOfTheCodeTable : Prop :=
  (∀ r ∈ hufRows, walkFrom root r.bits = some (.leaf r.symbol)) ∧
  ∀ (bits : List Bool) (sym : Nat), walkFrom root bits = some (.leaf sym) →
    ∃ r ∈ hufRows, r.symbol = sym ∧ r.bits = bits

/-- The all-ones path (R127, which the spec derives from other rules and its table): the nodes reached by `k` one-bits, `k`
from 0 to 29, are its nodes; the thirtieth 1-bit reaches the leaf of EOS; for `k` up to 7 the node is `k`. -/
def Obligations.AllOnesPathEndsInEos : Prop :=
  allOnesPath.length = 30 ∧
  (∀ k, k < 30 → walkFrom root (List.replicate k true) = allOnesPath[k]?.map Child.node) ∧
  walkFrom root (List.replicate 30 true) = some (.leaf Config.eos) ∧
  ∀ k, k ≤ 7 → allOnesPath[k]? = some (BitVec.ofNat 8 k)

/-- R128: the shortest root-to-leaf path has 5 edges and the longest 30; the ten symbols at depth 5 and the four at depth
30 are those the rule lists. -/
def Obligations.LeafDepthsAreFiveToThirty : Prop :=
  ∀ (bits : List Bool) (sym : Nat), walkFrom root bits = some (.leaf sym) →
    5 ≤ bits.length ∧ bits.length ≤ 30 ∧
    (bits.length = 5 ↔ sym ∈ [48, 49, 50, 97, 99, 101, 105, 111, 115, 116]) ∧
    (bits.length = 30 ↔ sym ∈ [10, 13, 22, 256])

/-- R126: the check of the ROM image. Every leaf field holds a symbol 0 to 256, each symbol is in exactly one leaf field,
every internal index 1 to 255 in exactly one child field and 0 in none. -/
def Obligations.RomImagePassesItsValidation : Prop :=
  let fields := (List.range 256).flatMap fun i =>
    [nextChild (BitVec.ofNat 8 i) false, nextChild (BitVec.ofNat 8 i) true]
  (∀ sym, Child.leaf sym ∈ fields → sym ≤ 256) ∧
  (∀ sym, sym ≤ 256 → fields.count (.leaf sym) = 1) ∧
  ∀ i, i < 256 → fields.count (.node (BitVec.ofNat 8 i)) = if i = 0 then 0 else 1

/-! ### Steps and the host -/

/-- A step on a command write runs the decoded instruction: `step` is `exec` of it, the action taken off the host's
list (R205). -/
def Obligations.StepRunsTheDecodedCommand : Prop :=
  ∀ (s : State) (w : Byte) (i : Instr) (rest : List HostAction),
    s.hostq = .writeCmd w :: rest → decode (.command w) = .ok i → step s = exec i { s with hostq := rest }

/-- A step on RDSYM runs the code word the stream holds: in an open context at a symbol boundary whose next bits decode to
a row, the bit-serial read (R141, R142) is `exec` of the row's instruction, and leaves exactly the bits after the
code (log entry 5). -/
def Obligations.StepRunsTheDecodedCodeWord : Prop :=
  ∀ (s : State) (rest : List HostAction) (r : HufRow) (bits : List Bool),
    s.Inv → s.err = false → s.isOpen = true → s.TailBits [] →
    s.hostq = .writeCmd 0x50#8 :: rest → decodeCode s.viewBits = some (r, bits) →
    step s = exec r.instr { s with hostq := rest } ∧ ∃ t, step s = .next t ∧ t.viewBits = bits

/-- A core without a pending host action is idle and all state survives (R209); with one, a step is that action, whole, taken
off the host's list (R6; the list is the model's own, log entry 3). -/
def Obligations.StepCarriesOutTheHostsOldestAction : Prop :=
  ∀ s : State, (s.hostq = [] → step s = .next s) ∧
    ∀ a rest, s.hostq = a :: rest → step s = serve a { s with hostq := rest }

/-- A write of ARG changes ARG alone; a write of a read-only register is ignored (R37). The action leaves the host's
list. -/
def Obligations.HostWritesChangeArgOnly : Prop :=
  ∀ (s : State) (rest : List HostAction),
    (∀ v, s.hostq = .writeArg v :: rest → step s = .next { s with arg := v, hostq := rest }) ∧
    ∀ r v, s.hostq = .writeReadOnly r v :: rest → step s = .next { s with hostq := rest }

/-- The host registers' numbers and contents, and STATUS bit by bit (R37), with the codes of cause (R201) and R_KIND (R34).
That a read gives 64 bits, STATUS extended with zeros, is the model's choice (log entry 13). That OLEN is the length of OUT
modulo 2^64 and that OUT has no byte at or above its length are its inferences (log entries 7 and 12). -/
def Obligations.HostRegistersShowTheState : Prop :=
  HostReg.number .cmd = 0 ∧ HostReg.number .arg = 1 ∧ HostReg.number (.readOnly .status) = 2 ∧
  HostReg.number (.readOnly .rVal) = 3 ∧ HostReg.number (.readOnly .rCnt) = 4 ∧
  HostReg.number (.readOnly .olen) = 5 ∧ HostReg.number (.readOnly .pos) = 6 ∧
  HostReg.number (.readOnly .lim) = 7 ∧
  Cause.code .none = 0 ∧ Cause.code .intTruncated = 1 ∧ Cause.code .intOverflow = 2 ∧
  Cause.code .badPrefixSize = 3 ∧ Cause.code .strTruncated = 4 ∧ Cause.code .hufBadTail = 5 ∧
  Cause.code .hufEos = 6 ∧ Cause.code .illegalCommand = 7 ∧ Cause.code .hufBound = 8 ∧
  ResultKind.code .none = 0 ∧ ResultKind.code .value = 1 ∧ ResultKind.code .string = 2 ∧
  ResultKind.code .symbol = 3 ∧ ResultKind.code .streamEnd = 4 ∧ ResultKind.code .error = 5 ∧
  ∀ s : State,
    hostRead s .cmd = 0 ∧ hostRead s .arg = s.arg ∧
    hostRead s (.readOnly .status) = (statusWord s).setWidth 64 ∧
    hostRead s (.readOnly .rVal) = s.rVal ∧ hostRead s (.readOnly .rCnt) = s.rCnt ∧
    hostRead s (.readOnly .olen) = BitVec.ofNat 64 s.out.length ∧
    hostRead s (.readOnly .pos) = s.pos ∧ hostRead s (.readOnly .lim) = s.lim ∧
    (statusWord s).getLsbD 0 = s.err ∧ (statusWord s).extractLsb' 1 4 = s.cause.code ∧
    (statusWord s).getLsbD 5 = s.isOpen ∧ (statusWord s).getLsbD 6 = s.h ∧
    (statusWord s).extractLsb' 7 3 = s.rKind.code ∧ (statusWord s).extractLsb' 10 6 = 0 ∧
    ∀ i, hostReadOut s i = s.out[i]?

/-- A reset that presents `input` leaves every register at its reset value, `lim` at IN_LEN, and IN holding exactly the bytes
presented (R39). That IN then has its one canonical form rests on how the model writes bytes down (log entry 4). -/
def Obligations.ResetLeavesTheResetValues : Prop :=
  ∀ (s : State) (input : List Byte), input.length < 2 ^ 64 →
    ∃ t, serve (.reset input) s = .next t ∧ t.pos = 0 ∧ t.lim.toNat = input.length ∧ t.isOpen = false ∧ t.cur = 0 ∧ t.mask = 0 ∧
      t.node = root ∧ t.tail = 0 ∧ t.ones = true ∧ t.h = false ∧ t.out = [] ∧ t.olen = 0 ∧ t.rKind = .none ∧
      t.rVal = 0 ∧ t.rCnt = 0 ∧ t.err = false ∧ t.cause = .none ∧ t.arg = 0 ∧
      t.inp.len.toNat = input.length ∧ t.inp.wf = true ∧ ∀ a, t.inp.read a = input[a]?

/-- The model's choice (log entry 2): State.reset is the state after a reset that presents the empty input. -/
def Obligations.StateResetIsResetOnTheEmptyInput : Prop :=
  State.reset = State.resetWith [] [] ∧ State.reset.inp.len = 0 ∧ ∀ a, State.reset.inp.read a = none

/-! ### The error -/

/-- While `err = 1` every write to CMD, reserved words included, and every instruction, only rewrites the result registers;
while `err = 0` the word is decoded and the command run (R205). That the code words make the same check is the model's
inference (log entry 5). -/
def Obligations.StickyErrorRefusesEveryCommand : Prop :=
  ∀ s : State,
    (s.err = true →
      (∀ w, runCommand w s = .next { s with rKind := .error, rVal := 0, rCnt := 0 }) ∧
      ∀ i, exec i s = .next { s with rKind := .error, rVal := 0, rCnt := 0 }) ∧
    (s.err = false → ∀ w i, decode (.command w) = .ok i → runCommand w s = exec i s)

/-- R204: whenever an instruction raises, the error registers, the result and OUT are those of the error entry. For the code
words this rests on log entries 5 and 6. -/
def Obligations.EveryRaiseMakesTheErrorEntry : Prop :=
  ∀ (i : Instr) (s t : State), s.err = false → exec i s = .next t → t.err = true →
    t.rKind = .error ∧ t.rVal = 0 ∧ t.rCnt = 0 ∧ t.out = [] ∧ t.cause ≠ .none

/-- The only way to `err = 0` is reset (R207): any other action of the host, once an error is recorded, leaves `err` and
`cause`; a reset clears both (R35, R39, R230). -/
def Obligations.OnlyResetClearsTheError : Prop :=
  ∀ (s t : State) (a : HostAction), s.err = true → serve a s = .next t →
    ((∀ input, a ≠ .reset input) → t.err = true ∧ t.cause = s.cause) ∧
    ∀ input, a = .reset input → t.err = false ∧ t.cause = .none

/-- R202: the cause of an error is one the instruction can raise; a string field raises a Huffman cause only if its flag H
is set. R202 has no row for the code words: theirs is that of RDSYM, the model's inference and choice (log entries 5 and
6). -/
def Obligations.CausesAreThoseOfTheCommand : Prop :=
  ∀ (i : Instr) (s t : State), s.Inv → s.err = false → exec i s = .next t → t.err = true →
    t.cause ∈ causesOf i ∧
    (i = .decstr → t.cause = .hufBadTail ∨ t.cause = .hufEos → t.h = true)

/-- R163: the cause HUF_BOUND is unreachable. For the code words this rests on log entries 5 and 6. -/
def Obligations.HufBoundIsUnreachable : Prop :=
  ∀ (i : Instr) (s t : State), s.Inv → s.err = false → exec i s = .next t → t.cause ≠ .hufBound

/-- R92: the reserved words are those with `op` 0 or 7 to 15 and those with `op` 2 to 6 and `n ≠ 0`; a write of one while
`err = 0` raises ILLEGAL_COMMAND and changes nothing but the error, the result and OUT. A DECINT word with `n` 0 or 9 to 15
is not reserved: outside a context it raises BAD_PREFIX_SIZE. -/
def Obligations.ReservedWordsRaiseIllegalCommand : Prop :=
  ∀ w : Byte,
    let reserved := opField w = 0 ∨ 7 ≤ opField w ∨ (2 ≤ opField w ∧ opField w ≤ 6 ∧ nField w ≠ 0)
    ((∃ i, decode (.command w) = .ok i) ↔ ¬ reserved) ∧
    ∀ s : State, s.err = false →
      (reserved →
        runCommand w s = .next
          { s with err := true, cause := .illegalCommand, rKind := .error, rVal := 0, rCnt := 0, out := [] }) ∧
      (opField w = 1 → nField w = 0 ∨ 9 ≤ nField w →
        ¬ reserved ∧ (s.isOpen = false → runCommand w s = .next (s.raiseError .badPrefixSize)))

/-- R206 (3), R201: DECINT with any N, DECSTR, DECHUF and BROPEN inside a context, RDSYM, BRCLOSE and the code words
outside one, raise ILLEGAL_COMMAND and change nothing but the error, the result and OUT. That the code words make RDSYM's
check is the model's inference (log entry 5). -/
def Obligations.WrongContextIsIllegalCommand : Prop :=
  ∀ s : State, s.err = false →
    let illegal : Host.Outcome State Fault Refusal := .next
      { s with err := true, cause := .illegalCommand, rKind := .error, rVal := 0, rCnt := 0, out := [] }
    (s.isOpen = true →
      (∀ n, exec (.decint n) s = illegal) ∧ exec .decstr s = illegal ∧ exec .dechuf s = illegal ∧
      exec .bropen s = illegal) ∧
    (s.isOpen = false →
      exec .rdsym s = illegal ∧ exec .brclose s = illegal ∧ ∀ r ∈ hufRows, exec r.instr s = illegal)

/-! ### BROPEN and BRCLOSE -/

/-- BROPEN (R140): with ARG bytes left it makes them the view of a fresh reader and reports NONE; with fewer left it raises
STR_TRUNCATED, inside a context ILLEGAL_COMMAND, and then nothing else changes. Its word is 0x40. At `ARG = IN_LEN = 2^64 - 1`
and `pos = 0` the rule disagrees with itself, and the statement holds by the model's choice (log entry 19). -/
def Obligations.BropenOpensTheView : Prop :=
  ∀ s : State, s.err = false →
    (s.isOpen = false → s.arg.toNat ≤ s.lim.toNat - s.pos.toNat →
      exec .bropen s = .next
        { s with
          lim := s.pos + s.arg, cur := 0, mask := 0, node := root, tail := 0, ones := true, isOpen := true,
          rKind := .none, rVal := 0, rCnt := 0 }) ∧
    (s.isOpen = false → s.lim.toNat - s.pos.toNat < s.arg.toNat →
      exec .bropen s = .next (s.raiseError .strTruncated)) ∧
    (s.isOpen = true → exec .bropen s = .next (s.raiseError .illegalCommand)) ∧
    runCommand 0x40#8 s = exec .bropen s

/-- R144: BRCLOSE clears the reader, gives the view back its end IN_LEN, leaves `pos`, checks no padding, and reports NONE;
outside a context it raises ILLEGAL_COMMAND. Its word is 0x60. -/
def Obligations.BrcloseDiscardsTheReader : Prop :=
  ∀ s : State, s.err = false →
    (s.isOpen = true →
      exec .brclose s = .next
        { s with
          cur := 0, mask := 0, node := root, tail := 0, ones := true, isOpen := false, lim := s.inp.len,
          rKind := .none, rVal := 0, rCnt := 0 }) ∧
    (s.isOpen = false → exec .brclose s = .next (s.raiseError .illegalCommand)) ∧
    runCommand 0x60#8 s = exec .brclose s

/-! ### The micro-step, RDSYM and the code words -/

/-- R64, R141: the bit a micro-step takes is the first of the bits of the view not yet consumed, and exactly that bit is
consumed; none is taken exactly at the end of the view, and then nothing changes. -/
def Obligations.MicroStepTakesTheNextBit : Prop :=
  ∀ s : State, s.Inv →
    (s.viewBits = [] → takeBit s = .done none s) ∧
    ∀ b bits, s.viewBits = b :: bits →
      ∃ t, takeBit s = .done (some b) t ∧ t.viewBits = bits ∧ t = s.atCursor (s.bitCursor + 1)

/-- R146: where the micro-step finds no bit pending and the view at its end, the outcome is END exactly when the tail is at
most seven ones, and HUF_BAD_TAIL otherwise; no register changes, so END is idempotent. -/
def Obligations.EndOfTheViewIsCleanOrBadTail : Prop :=
  ∀ (s : State) (tail : List Bool), s.mask = 0 → s.pos = s.lim → s.TailBits tail →
    ((∃ k, k ≤ 7 ∧ tail = List.replicate k true) → bitStep s = .done .atEnd s) ∧
    ((∀ k, k ≤ 7 → tail ≠ List.replicate k true) → bitStep s = .raised .hufBadTail s)

/-- R142, R149: readNext never runs into its bound of 30 micro-steps, in any state, reachable or not. -/
def Obligations.ReadNextStaysWithinItsBound : Prop :=
  ∀ s : State, readNext s ≠ .fault .bitStepBound

/-- R143, R141: at a symbol boundary RDSYM reads the symbol whose code comes next, reports it, consumes exactly its code and
is at a boundary again; every other register stays. -/
def Obligations.RdsymReadsTheNextSymbol : Prop :=
  ∀ (s : State) (v : Byte) (rest : List Bool),
    s.Inv → s.err = false → s.isOpen = true → s.TailBits [] → s.viewBits = hufCode v.toNat ++ rest →
    ∃ t, exec .rdsym s = .next t ∧ t.viewBits = rest ∧
      t = { s.atCursor (s.bitCursor + (hufCode v.toNat).length) with
            rKind := .symbol, rVal := v.setWidth 64, rCnt := 0 }

/-- R146: when the tail and the bits left in the view are together `k` ones, `k` at most 7, RDSYM reports END at the end of the
view, and a further RDSYM repeats it with no change of state. -/
def Obligations.RdsymReportsACleanEnd : Prop :=
  ∀ (s : State) (tail : List Bool) (k : Nat),
    s.Inv → s.err = false → s.isOpen = true → s.TailBits tail → k ≤ 7 →
    tail ++ s.viewBits = List.replicate k true →
    let t := { s with
      pos := s.lim, cur := 0, mask := 0, node := BitVec.ofNat 8 k, tail := BitVec.ofNat 4 k, ones := true,
      rKind := ResultKind.streamEnd, rVal := 0, rCnt := 0 }
    exec .rdsym s = .next t ∧ exec .rdsym t = .next t

/-- R146, R201: when the tail and the bits left complete no symbol and are not `k` ones with `k` at most 7, RDSYM raises
HUF_BAD_TAIL at the end of the view; `node`, `tail` and `ones` describe all of the tail. -/
def Obligations.RdsymRejectsABadTail : Prop :=
  ∀ (s : State) (tail : List Bool) (j : NodeId),
    s.Inv → s.err = false → s.isOpen = true → s.TailBits tail →
    walkFrom root (tail ++ s.viewBits) = some (.node j) →
    (∀ k, k ≤ 7 → tail ++ s.viewBits ≠ List.replicate k true) →
    exec .rdsym s = .next
      ({ s with
        pos := s.lim, cur := 0, mask := 0, node := j,
        tail := BitVec.ofNat 4 (min (tail ++ s.viewBits).length 8), ones := (tail ++ s.viewBits).all id }.raiseError
          .hufBadTail)

/-- R141, R143: each of the 256 code words of symbols 0 to 255, at a symbol boundary of an open context with enough bits left,
consumes exactly its length in bits and reports its symbol; every other register stays. That a row is an instruction is the
model's inference (log entry 5); what it does where the view does not hold its code is the model's choice (log entry 6). -/
def Obligations.CodeWordsReportTheirSymbol : Prop :=
  ∀ r ∈ hufRows, r.symbol < 256 → ∀ s : State,
    s.Inv → s.err = false → s.isOpen = true → s.TailBits [] → r.length ≤ s.viewBits.length →
    exec r.instr s = .next
      { s.atCursor (s.bitCursor + r.length) with rKind := .symbol, rVal := BitVec.ofNat 64 r.symbol, rCnt := 0 }

/-- R145: the EOS code is never returned. At a symbol boundary of an open context with 30 bits left it raises HUF_EOS after
its thirtieth bit, the reader back at the root. That the row is an instruction is the model's inference (log entry 5); that
it raises where the view does not hold thirty ones is the model's choice (log entry 6). -/
def Obligations.EosCodeRaisesHufEos : Prop :=
  ∀ s : State, s.Inv → s.err = false → s.isOpen = true → s.TailBits [] → 30 ≤ s.viewBits.length →
    exec .hufEos s = .next ((s.atCursor (s.bitCursor + 30)).raiseError .hufEos)

/-- R63: inside a context the bytes at and after `lim` are unreachable: RDSYM does the same on any two inputs that agree
below `lim`. -/
def Obligations.RdsymSeesOnlyTheView : Prop :=
  ∀ (s : State) (m : Memory), s.pos.toNat ≤ s.lim.toNat →
    (∀ a, a < s.lim.toNat → m.read a = s.inp.read a) →
    ∀ t, exec .rdsym s = .next t → exec .rdsym { s with inp := m } = .next { t with inp := m }

/-! ### DECINT -/

/-- R180, R181, R95: where an integer of prefix size N, 1 to 8, stands at `pos`, DECINT reports its exact value and its bytes,
and `pos` is after it; every other register stays. -/
def Obligations.DecintDecodesTheInteger : Prop :=
  ∀ (s : State) (n : Nat) (b : Byte) (cs : List Byte) (v : Nat),
    s.Inv → s.err = false → s.isOpen = false → 1 ≤ n → n ≤ 8 → s.IntegerAt n b cs v →
    exec (.decint n) s = .next
      { s with
        pos := BitVec.ofNat 64 (s.pos.toNat + (1 + cs.length)), rKind := .value, rVal := BitVec.ofNat 64 v,
        rCnt := BitVec.ofNat 64 (1 + cs.length) }

/-- R183: INT_OVERFLOW is raised at the first continuation byte after which the exact sum exceeds `2^64 - 1`, `pos` just after
that byte. -/
def Obligations.DecintRaisesOverflow : Prop :=
  ∀ (s : State) (n : Nat) (b c : Byte) (cs : List Byte),
    s.Inv → s.err = false → s.isOpen = false → 1 ≤ n → n ≤ 8 →
    s.inp.bytes s.pos.toNat (1 + (cs ++ [c]).length) = b :: (cs ++ [c]) → 1 + (cs ++ [c]).length ≤ s.bytesLeft →
    prefixField n b = fullPrefix n → cs.all moreFlag = true →
    fullPrefix n + continuationValue 0 cs ≤ 2 ^ 64 - 1 →
    2 ^ 64 - 1 < fullPrefix n + continuationValue 0 (cs ++ [c]) →
    exec (.decint n) s = .next
      ({ s with pos := BitVec.ofNat 64 (s.pos.toNat + (1 + (cs ++ [c]).length)) }.raiseError .intOverflow)

/-- R184: INT_TRUNCATED is raised where the view ends before the first byte, after a first byte whose prefix is all ones, or
after a continuation byte with bit 7 set; `pos = lim` then. -/
def Obligations.DecintRaisesTruncated : Prop :=
  ∀ (s : State) (n : Nat), s.Inv → s.err = false → s.isOpen = false → 1 ≤ n → n ≤ 8 →
    (s.bytesLeft = 0 ∨
      ∃ b cs, s.inp.bytes s.pos.toNat s.bytesLeft = b :: cs ∧ prefixField n b = fullPrefix n ∧
        cs.all moreFlag = true ∧ fullPrefix n + continuationValue 0 cs ≤ 2 ^ 64 - 1) →
    exec (.decint n) s = .next ({ s with pos := s.lim }.raiseError .intTruncated)

/-- R185: outside a context DECINT with N = 0 or above 8 raises BAD_PREFIX_SIZE before any input is read, whatever the
input. -/
def Obligations.DecintRefusesBadPrefixSizes : Prop :=
  ∀ (s : State) (n : Nat), s.err = false → s.isOpen = false → n = 0 ∨ 8 < n →
    exec (.decint n) s = .next (s.raiseError .badPrefixSize)

/-- R95, R187: DECINT inverts the shortest form of every 64-bit value, for every prefix size and whatever bits 7:N of the
first byte hold (95_test_vectors.md L2.0). -/
def Obligations.DecintInvertsTheShortestForm : Prop :=
  ∀ (s : State) (v n : Nat) (hi : Byte),
    s.Inv → s.err = false → s.isOpen = false → 1 ≤ n → n ≤ 8 → v < 2 ^ 64 → hi.toNat % 2 ^ n = 0 →
    let bs := encodeInteger v n hi
    bs.length ≤ s.bytesLeft → s.inp.bytes s.pos.toNat bs.length = bs →
    bs.length ≤ 11 ∧
    exec (.decint n) s = .next
      { s with
        pos := BitVec.ofNat 64 (s.pos.toNat + bs.length), rKind := .value, rVal := BitVec.ofNat 64 v,
        rCnt := BitVec.ofNat 64 bs.length }

/-! ### DECHUF and DECSTR -/

/-- R148, R161, R166: DECHUF over a body whose bits are the codes of a byte string followed by at most seven ones gives that
string, at whatever length of padding; every other register ends as it was. For a body of 2^64 - 1 bytes this
rests on log entry 19. -/
def Obligations.DechufDecodesAValidBody : Prop :=
  ∀ (s : State) (str : List Byte) (k : Nat),
    s.Inv → s.err = false → s.isOpen = false → s.arg.toNat ≤ s.bytesLeft → k ≤ 7 →
    s.bodyBits s.arg.toNat = stringBits str ++ List.replicate k true →
    exec .dechuf s = .next
      { s with pos := s.pos + s.arg, out := str, rKind := .string, rVal := s.arg, rCnt := s.arg }

/-- R148, R145, R146, R201: on any other body DECHUF raises, HUF_EOS exactly if thirty ones follow a symbol boundary, the
reader back at the root just after them; else HUF_BAD_TAIL at the end of the view, `node`, `tail` and `ones` describing the
bits after the last symbol. The context stays open, OUT is empty (R204), every other register as it was. For a body of 2^64 - 1 bytes this
rests on log entry 19. -/
def Obligations.DechufRejectsEveryOtherBody : Prop :=
  ∀ s : State, s.Inv → s.err = false → s.isOpen = false → s.arg.toNat ≤ s.bytesLeft →
    (∀ str k, k ≤ 7 → s.bodyBits s.arg.toNat ≠ stringBits str ++ List.replicate k true) →
    ∃ t, exec .dechuf s = .next t ∧ s.BodyRejected s.arg.toNat t

/-- R161, R140: DECHUF with fewer than ARG bytes left raises STR_TRUNCATED and consumes nothing. -/
def Obligations.DechufRaisesStrTruncated : Prop :=
  ∀ s : State, s.err = false → s.isOpen = false → s.bytesLeft < s.arg.toNat →
    exec .dechuf s = .next (s.raiseError .strTruncated)

/-- R167, D00 section 8: the round trip. DECHUF over the encoding of any byte string returns the string. For a body of 2^64 - 1 bytes this
rests on log entry 19. -/
def Obligations.DechufInvertsTheReferenceEncoder : Prop :=
  ∀ (s : State) (str : List Byte),
    s.Inv → s.err = false → s.isOpen = false →
    s.arg.toNat = (encodeString str).length → (encodeString str).length ≤ s.bytesLeft →
    s.inp.bytes s.pos.toNat (encodeString str).length = encodeString str →
    exec .dechuf s = .next
      { s with pos := s.pos + s.arg, out := str, rKind := .string, rVal := s.arg, rCnt := s.arg }

/-- R163, R165: DECHUF appends at most `floor(8 * L / 5)` bytes. -/
def Obligations.DechufOutputStaysWithinTheBound : Prop :=
  ∀ s t : State, s.err = false → exec .dechuf s = .next t → t.out.length ≤ 8 * s.arg.toNat / 5

/-- R162, R164: a string field with flag H clear and its L bytes in the view is copied byte for byte; every register but those
named stays. -/
def Obligations.DecstrCopiesARawBody : Prop :=
  ∀ (s : State) (b : Byte) (cs : List Byte) (len : Nat),
    s.Inv → s.err = false → s.isOpen = false → s.IntegerAt 7 b cs len → b.getLsbD 7 = false →
    1 + cs.length + len ≤ s.bytesLeft →
    exec .decstr s = .next
      { s with
        pos := BitVec.ofNat 64 (s.pos.toNat + (1 + cs.length + len)), h := false,
        out := s.inp.bytes (s.pos.toNat + (1 + cs.length)) len, rKind := .string, rVal := BitVec.ofNat 64 len,
        rCnt := BitVec.ofNat 64 (1 + cs.length + len) } ∧
    (s.inp.bytes (s.pos.toNat + (1 + cs.length)) len).length = len

/-- R162, R160: a string field with flag H set, whose L body bytes are the codes of a byte string followed by at most seven
ones, decodes to that string; every register but those named ends as it was. -/
def Obligations.DecstrDecodesAHuffmanBody : Prop :=
  ∀ (s : State) (b : Byte) (cs : List Byte) (len : Nat) (str : List Byte) (k : Nat),
    s.Inv → s.err = false → s.isOpen = false → s.IntegerAt 7 b cs len → b.getLsbD 7 = true →
    1 + cs.length + len ≤ s.bytesLeft → k ≤ 7 →
    (s.inp.bytes (s.pos.toNat + (1 + cs.length)) len).flatMap byteBits =
      stringBits str ++ List.replicate k true →
    exec .decstr s = .next
      { s with
        pos := BitVec.ofNat 64 (s.pos.toNat + (1 + cs.length + len)), h := true, out := str, rKind := .string,
        rVal := BitVec.ofNat 64 len, rCnt := BitVec.ofNat 64 (1 + cs.length + len) }

/-- R162, R201: a string field whose body is longer than the view, raw or Huffman, raises STR_TRUNCATED with `pos` at the first
body byte and the flag latched. -/
def Obligations.DecstrRaisesStrTruncated : Prop :=
  ∀ (s : State) (b : Byte) (cs : List Byte) (len : Nat),
    s.Inv → s.err = false → s.isOpen = false → s.IntegerAt 7 b cs len → s.bytesLeft < 1 + cs.length + len →
    exec .decstr s = .next
      ({ s with pos := BitVec.ofNat 64 (s.pos.toNat + (1 + cs.length)), h := b.getLsbD 7 }.raiseError .strTruncated)

/-- R162, R148, R145, R146, R201: on a string field with flag H set whose body is in the view and is no valid one, DECSTR
raises as DECHUF does on that body, H latched. -/
def Obligations.DecstrRejectsEveryOtherHuffmanBody : Prop :=
  ∀ (s : State) (b : Byte) (cs : List Byte) (len : Nat),
    s.Inv → s.err = false → s.isOpen = false → s.IntegerAt 7 b cs len → b.getLsbD 7 = true →
    1 + cs.length + len ≤ s.bytesLeft →
    let body := { s with pos := BitVec.ofNat 64 (s.pos.toNat + (1 + cs.length)), h := true }
    (∀ str k, k ≤ 7 → body.bodyBits len ≠ stringBits str ++ List.replicate k true) →
    ∃ t, exec .decstr s = .next t ∧ body.BodyRejected len t

/-- R162, R183: a string length above `2^64 - 1` raises INT_OVERFLOW with `pos` just after the continuation byte that takes
the sum past it, H latched from the first byte. -/
def Obligations.DecstrRaisesIntOverflow : Prop :=
  ∀ (s : State) (b c : Byte) (cs : List Byte),
    s.Inv → s.err = false → s.isOpen = false →
    s.inp.bytes s.pos.toNat (1 + (cs ++ [c]).length) = b :: (cs ++ [c]) → 1 + (cs ++ [c]).length ≤ s.bytesLeft →
    prefixField 7 b = fullPrefix 7 → cs.all moreFlag = true →
    fullPrefix 7 + continuationValue 0 cs ≤ 2 ^ 64 - 1 →
    2 ^ 64 - 1 < fullPrefix 7 + continuationValue 0 (cs ++ [c]) →
    exec .decstr s = .next
      ({ s with
        pos := BitVec.ofNat 64 (s.pos.toNat + (1 + (cs ++ [c]).length)), h := b.getLsbD 7 }.raiseError .intOverflow)

/-- R162, R184: a string length that the view cuts short after its first byte raises INT_TRUNCATED with `pos = lim`, H
latched from the first byte. -/
def Obligations.DecstrRaisesIntTruncated : Prop :=
  ∀ (s : State) (b : Byte) (cs : List Byte),
    s.Inv → s.err = false → s.isOpen = false →
    s.inp.bytes s.pos.toNat s.bytesLeft = b :: cs → prefixField 7 b = fullPrefix 7 → cs.all moreFlag = true →
    fullPrefix 7 + continuationValue 0 cs ≤ 2 ^ 64 - 1 →
    exec .decstr s = .next ({ s with pos := s.lim, h := b.getLsbD 7 }.raiseError .intTruncated)

/-- R31, R162: DECSTR latches H from the first byte of the field before it decodes the length, whether or not the field
succeeds; on an empty view it raises INT_TRUNCATED and leaves H. -/
def Obligations.DecstrLatchesTheHuffmanFlag : Prop :=
  ∀ s : State, s.err = false → s.isOpen = false →
    (s.pos = s.lim → exec .decstr s = .next (s.raiseError .intTruncated)) ∧
    ∀ b t, s.pos ≠ s.lim → s.inp.read s.pos.toNat = some b → exec .decstr s = .next t → t.h = b.getLsbD 7

/-! ### Frames -/

/-- R40, R37, R76: no instruction changes IN, ARG or the host's list; every byte of IN reads as before. For the code words
this rests on log entries 5 and 6. -/
def Obligations.NoInstructionChangesInputOrArg : Prop :=
  ∀ (i : Instr) (s t : State), exec i s = .next t →
    t.arg = s.arg ∧ t.hostq = s.hostq ∧ t.inp = s.inp ∧ ∀ a, t.inp.read a = s.inp.read a

/-- R40, R204: DECINT writes `pos`, the result, and on an error `err`, `cause` and OUT; RDSYM and the code words write `pos`, the
reader, the result, and on an error the same; every other register stays. R40 has no row for the code words: their frame is
that of RDSYM, the model's inference and choice (log entries 5 and 6). -/
def Obligations.FrameOfDecintAndReads : Prop :=
  ∀ s t : State,
    (∀ n, exec (.decint n) s = .next t →
      t.lim = s.lim ∧ t.isOpen = s.isOpen ∧ t.cur = s.cur ∧ t.mask = s.mask ∧ t.node = s.node ∧ t.tail = s.tail ∧
      t.ones = s.ones ∧ t.h = s.h ∧ (t.err = false → t.out = s.out ∧ s.err = false ∧ t.cause = s.cause)) ∧
    (∀ i, i = .rdsym ∨ (∃ r ∈ hufRows, i = r.instr) → exec i s = .next t →
      t.lim = s.lim ∧ t.isOpen = s.isOpen ∧ t.h = s.h ∧
      (t.err = false → t.out = s.out ∧ s.err = false ∧ t.cause = s.cause))

/-- R40, R204: DECHUF leaves H; DECHUF and DECSTR end outside a context with the whole input as the view and the reader as it was,
unless they raise; a raw field leaves the reader and the view alone even then. -/
def Obligations.FrameOfStringCommands : Prop :=
  ∀ s t : State, s.Inv → s.err = false → s.isOpen = false →
    (exec .dechuf s = .next t → t.h = s.h) ∧
    (∀ i, i = .dechuf ∨ i = .decstr → exec i s = .next t →
      (t.err = false → t.isOpen = false ∧ t.lim = s.lim ∧ t.cur = s.cur ∧ t.mask = s.mask ∧ t.node = s.node ∧
        t.tail = s.tail ∧ t.ones = s.ones ∧ t.cause = s.cause)) ∧
    (exec .decstr s = .next t → t.h = false →
      t.isOpen = s.isOpen ∧ t.lim = s.lim ∧ t.cur = s.cur ∧ t.mask = s.mask ∧ t.node = s.node ∧ t.tail = s.tail ∧
      t.ones = s.ones)

/-! ### Whole-machine properties -/

/-- The invariants hold at reset. -/
def Obligations.ResetMeetsTheInvariants : Prop := State.reset.Inv

/-- R30: every step keeps the invariants: the view inside IN, the cleared reader outside a context, the one-hot cursor, the tail
described by `node`, `tail` and `ones`, the agreement of `err`, `cause` and R_KIND. -/
def Obligations.EveryStepKeepsTheInvariants : Prop :=
  ∀ s t : State, s.Inv → Sys2Proof.Machine.step s = .next t → t.Inv

/-- R234, R206: every instruction has an outcome in every state within the invariants: it ends in a next state, never in a
fault or a refusal. For the code words this rests on log entries 5 and 6. -/
def Obligations.EveryInstructionCompletes : Prop :=
  ∀ (i : Instr) (s : State), s.Inv → ∃ t, exec i s = .next t

/-- R21, R230: no host action but reset moves `pos` backwards. -/
def Obligations.PosNeverMovesBackwards : Prop :=
  ∀ s t : State, s.Inv → s.noResetNext → step s = .next t → s.pos.toNat ≤ t.pos.toNat

/-- R213: the cores of a system are independent: a step of one changes no other. -/
def Obligations.CoresAreIndependent : Prop :=
  ∀ (k j : Nat) (sys sys' : System), j ≠ k → stepCore k sys = .next sys' → sys'[j]? = sys[j]?
end

