-- ==== Sys2Proof/Laws/State.lean ====
section
/-!
SUPPORT. One lemma per field per named update of State, so that no proof unfolds a record update.
-/

namespace Sys2Proof.Machine

section
variable (s : State)

@[simp] theorem State.advance_pos (n : Nat) : (s.advance n).pos = BitVec.ofNat 64 (s.pos.toNat + n) := rfl
@[simp] theorem State.advance_lim (n : Nat) : (s.advance n).lim = s.lim := rfl
@[simp] theorem State.advance_isOpen (n : Nat) : (s.advance n).isOpen = s.isOpen := rfl
@[simp] theorem State.advance_cur (n : Nat) : (s.advance n).cur = s.cur := rfl
@[simp] theorem State.advance_mask (n : Nat) : (s.advance n).mask = s.mask := rfl
@[simp] theorem State.advance_node (n : Nat) : (s.advance n).node = s.node := rfl
@[simp] theorem State.advance_tail (n : Nat) : (s.advance n).tail = s.tail := rfl
@[simp] theorem State.advance_ones (n : Nat) : (s.advance n).ones = s.ones := rfl
@[simp] theorem State.advance_h (n : Nat) : (s.advance n).h = s.h := rfl
@[simp] theorem State.advance_out (n : Nat) : (s.advance n).out = s.out := rfl
@[simp] theorem State.advance_rKind (n : Nat) : (s.advance n).rKind = s.rKind := rfl
@[simp] theorem State.advance_rVal (n : Nat) : (s.advance n).rVal = s.rVal := rfl
@[simp] theorem State.advance_rCnt (n : Nat) : (s.advance n).rCnt = s.rCnt := rfl
@[simp] theorem State.advance_err (n : Nat) : (s.advance n).err = s.err := rfl
@[simp] theorem State.advance_cause (n : Nat) : (s.advance n).cause = s.cause := rfl
@[simp] theorem State.advance_arg (n : Nat) : (s.advance n).arg = s.arg := rfl
@[simp] theorem State.advance_inp (n : Nat) : (s.advance n).inp = s.inp := rfl
@[simp] theorem State.advance_hostq (n : Nat) : (s.advance n).hostq = s.hostq := rfl

@[simp] theorem State.outAppend_pos (v : Byte) : (s.outAppend v).pos = s.pos := rfl
@[simp] theorem State.outAppend_lim (v : Byte) : (s.outAppend v).lim = s.lim := rfl
@[simp] theorem State.outAppend_isOpen (v : Byte) : (s.outAppend v).isOpen = s.isOpen := rfl
@[simp] theorem State.outAppend_cur (v : Byte) : (s.outAppend v).cur = s.cur := rfl
@[simp] theorem State.outAppend_mask (v : Byte) : (s.outAppend v).mask = s.mask := rfl
@[simp] theorem State.outAppend_node (v : Byte) : (s.outAppend v).node = s.node := rfl
@[simp] theorem State.outAppend_tail (v : Byte) : (s.outAppend v).tail = s.tail := rfl
@[simp] theorem State.outAppend_ones (v : Byte) : (s.outAppend v).ones = s.ones := rfl
@[simp] theorem State.outAppend_h (v : Byte) : (s.outAppend v).h = s.h := rfl
@[simp] theorem State.outAppend_out (v : Byte) : (s.outAppend v).out = s.out ++ [v] := rfl
@[simp] theorem State.outAppend_rKind (v : Byte) : (s.outAppend v).rKind = s.rKind := rfl
@[simp] theorem State.outAppend_rVal (v : Byte) : (s.outAppend v).rVal = s.rVal := rfl
@[simp] theorem State.outAppend_rCnt (v : Byte) : (s.outAppend v).rCnt = s.rCnt := rfl
@[simp] theorem State.outAppend_err (v : Byte) : (s.outAppend v).err = s.err := rfl
@[simp] theorem State.outAppend_cause (v : Byte) : (s.outAppend v).cause = s.cause := rfl
@[simp] theorem State.outAppend_arg (v : Byte) : (s.outAppend v).arg = s.arg := rfl
@[simp] theorem State.outAppend_inp (v : Byte) : (s.outAppend v).inp = s.inp := rfl
@[simp] theorem State.outAppend_hostq (v : Byte) : (s.outAppend v).hostq = s.hostq := rfl

@[simp] theorem State.clearOut_pos : s.clearOut.pos = s.pos := rfl
@[simp] theorem State.clearOut_lim : s.clearOut.lim = s.lim := rfl
@[simp] theorem State.clearOut_isOpen : s.clearOut.isOpen = s.isOpen := rfl
@[simp] theorem State.clearOut_cur : s.clearOut.cur = s.cur := rfl
@[simp] theorem State.clearOut_mask : s.clearOut.mask = s.mask := rfl
@[simp] theorem State.clearOut_node : s.clearOut.node = s.node := rfl
@[simp] theorem State.clearOut_tail : s.clearOut.tail = s.tail := rfl
@[simp] theorem State.clearOut_ones : s.clearOut.ones = s.ones := rfl
@[simp] theorem State.clearOut_h : s.clearOut.h = s.h := rfl
@[simp] theorem State.clearOut_out : s.clearOut.out = [] := rfl
@[simp] theorem State.clearOut_rKind : s.clearOut.rKind = s.rKind := rfl
@[simp] theorem State.clearOut_rVal : s.clearOut.rVal = s.rVal := rfl
@[simp] theorem State.clearOut_rCnt : s.clearOut.rCnt = s.rCnt := rfl
@[simp] theorem State.clearOut_err : s.clearOut.err = s.err := rfl
@[simp] theorem State.clearOut_cause : s.clearOut.cause = s.cause := rfl
@[simp] theorem State.clearOut_arg : s.clearOut.arg = s.arg := rfl
@[simp] theorem State.clearOut_inp : s.clearOut.inp = s.inp := rfl
@[simp] theorem State.clearOut_hostq : s.clearOut.hostq = s.hostq := rfl

@[simp] theorem State.setH_pos (f : Bool) : (s.setH f).pos = s.pos := rfl
@[simp] theorem State.setH_lim (f : Bool) : (s.setH f).lim = s.lim := rfl
@[simp] theorem State.setH_isOpen (f : Bool) : (s.setH f).isOpen = s.isOpen := rfl
@[simp] theorem State.setH_cur (f : Bool) : (s.setH f).cur = s.cur := rfl
@[simp] theorem State.setH_mask (f : Bool) : (s.setH f).mask = s.mask := rfl
@[simp] theorem State.setH_node (f : Bool) : (s.setH f).node = s.node := rfl
@[simp] theorem State.setH_tail (f : Bool) : (s.setH f).tail = s.tail := rfl
@[simp] theorem State.setH_ones (f : Bool) : (s.setH f).ones = s.ones := rfl
@[simp] theorem State.setH_h (f : Bool) : (s.setH f).h = f := rfl
@[simp] theorem State.setH_out (f : Bool) : (s.setH f).out = s.out := rfl
@[simp] theorem State.setH_rKind (f : Bool) : (s.setH f).rKind = s.rKind := rfl
@[simp] theorem State.setH_rVal (f : Bool) : (s.setH f).rVal = s.rVal := rfl
@[simp] theorem State.setH_rCnt (f : Bool) : (s.setH f).rCnt = s.rCnt := rfl
@[simp] theorem State.setH_err (f : Bool) : (s.setH f).err = s.err := rfl
@[simp] theorem State.setH_cause (f : Bool) : (s.setH f).cause = s.cause := rfl
@[simp] theorem State.setH_arg (f : Bool) : (s.setH f).arg = s.arg := rfl
@[simp] theorem State.setH_inp (f : Bool) : (s.setH f).inp = s.inp := rfl
@[simp] theorem State.setH_hostq (f : Bool) : (s.setH f).hostq = s.hostq := rfl

@[simp] theorem State.setResult_pos (k : ResultKind) (v c : Nat) : (s.setResult k v c).pos = s.pos := rfl
@[simp] theorem State.setResult_lim (k : ResultKind) (v c : Nat) : (s.setResult k v c).lim = s.lim := rfl
@[simp] theorem State.setResult_isOpen (k : ResultKind) (v c : Nat) : (s.setResult k v c).isOpen = s.isOpen := rfl
@[simp] theorem State.setResult_cur (k : ResultKind) (v c : Nat) : (s.setResult k v c).cur = s.cur := rfl
@[simp] theorem State.setResult_mask (k : ResultKind) (v c : Nat) : (s.setResult k v c).mask = s.mask := rfl
@[simp] theorem State.setResult_node (k : ResultKind) (v c : Nat) : (s.setResult k v c).node = s.node := rfl
@[simp] theorem State.setResult_tail (k : ResultKind) (v c : Nat) : (s.setResult k v c).tail = s.tail := rfl
@[simp] theorem State.setResult_ones (k : ResultKind) (v c : Nat) : (s.setResult k v c).ones = s.ones := rfl
@[simp] theorem State.setResult_h (k : ResultKind) (v c : Nat) : (s.setResult k v c).h = s.h := rfl
@[simp] theorem State.setResult_out (k : ResultKind) (v c : Nat) : (s.setResult k v c).out = s.out := rfl
@[simp] theorem State.setResult_rKind (k : ResultKind) (v c : Nat) : (s.setResult k v c).rKind = k := rfl
@[simp] theorem State.setResult_rVal (k : ResultKind) (v c : Nat) : (s.setResult k v c).rVal = BitVec.ofNat 64 v := rfl
@[simp] theorem State.setResult_rCnt (k : ResultKind) (v c : Nat) : (s.setResult k v c).rCnt = BitVec.ofNat 64 c := rfl
@[simp] theorem State.setResult_err (k : ResultKind) (v c : Nat) : (s.setResult k v c).err = s.err := rfl
@[simp] theorem State.setResult_cause (k : ResultKind) (v c : Nat) : (s.setResult k v c).cause = s.cause := rfl
@[simp] theorem State.setResult_arg (k : ResultKind) (v c : Nat) : (s.setResult k v c).arg = s.arg := rfl
@[simp] theorem State.setResult_inp (k : ResultKind) (v c : Nat) : (s.setResult k v c).inp = s.inp := rfl
@[simp] theorem State.setResult_hostq (k : ResultKind) (v c : Nat) : (s.setResult k v c).hostq = s.hostq := rfl

@[simp] theorem State.raiseError_pos (c : Cause) : (s.raiseError c).pos = s.pos := rfl
@[simp] theorem State.raiseError_lim (c : Cause) : (s.raiseError c).lim = s.lim := rfl
@[simp] theorem State.raiseError_isOpen (c : Cause) : (s.raiseError c).isOpen = s.isOpen := rfl
@[simp] theorem State.raiseError_cur (c : Cause) : (s.raiseError c).cur = s.cur := rfl
@[simp] theorem State.raiseError_mask (c : Cause) : (s.raiseError c).mask = s.mask := rfl
@[simp] theorem State.raiseError_node (c : Cause) : (s.raiseError c).node = s.node := rfl
@[simp] theorem State.raiseError_tail (c : Cause) : (s.raiseError c).tail = s.tail := rfl
@[simp] theorem State.raiseError_ones (c : Cause) : (s.raiseError c).ones = s.ones := rfl
@[simp] theorem State.raiseError_h (c : Cause) : (s.raiseError c).h = s.h := rfl
@[simp] theorem State.raiseError_out (c : Cause) : (s.raiseError c).out = [] := rfl
@[simp] theorem State.raiseError_rKind (c : Cause) : (s.raiseError c).rKind = .error := rfl
@[simp] theorem State.raiseError_rVal (c : Cause) : (s.raiseError c).rVal = 0 := rfl
@[simp] theorem State.raiseError_rCnt (c : Cause) : (s.raiseError c).rCnt = 0 := rfl
@[simp] theorem State.raiseError_err (c : Cause) : (s.raiseError c).err = true := rfl
@[simp] theorem State.raiseError_cause (c : Cause) : (s.raiseError c).cause = c := rfl
@[simp] theorem State.raiseError_arg (c : Cause) : (s.raiseError c).arg = s.arg := rfl
@[simp] theorem State.raiseError_inp (c : Cause) : (s.raiseError c).inp = s.inp := rfl
@[simp] theorem State.raiseError_hostq (c : Cause) : (s.raiseError c).hostq = s.hostq := rfl

@[simp] theorem State.refuseCommand_pos : s.refuseCommand.pos = s.pos := rfl
@[simp] theorem State.refuseCommand_lim : s.refuseCommand.lim = s.lim := rfl
@[simp] theorem State.refuseCommand_isOpen : s.refuseCommand.isOpen = s.isOpen := rfl
@[simp] theorem State.refuseCommand_cur : s.refuseCommand.cur = s.cur := rfl
@[simp] theorem State.refuseCommand_mask : s.refuseCommand.mask = s.mask := rfl
@[simp] theorem State.refuseCommand_node : s.refuseCommand.node = s.node := rfl
@[simp] theorem State.refuseCommand_tail : s.refuseCommand.tail = s.tail := rfl
@[simp] theorem State.refuseCommand_ones : s.refuseCommand.ones = s.ones := rfl
@[simp] theorem State.refuseCommand_h : s.refuseCommand.h = s.h := rfl
@[simp] theorem State.refuseCommand_out : s.refuseCommand.out = s.out := rfl
@[simp] theorem State.refuseCommand_rKind : s.refuseCommand.rKind = .error := rfl
@[simp] theorem State.refuseCommand_rVal : s.refuseCommand.rVal = 0 := rfl
@[simp] theorem State.refuseCommand_rCnt : s.refuseCommand.rCnt = 0 := rfl
@[simp] theorem State.refuseCommand_err : s.refuseCommand.err = s.err := rfl
@[simp] theorem State.refuseCommand_cause : s.refuseCommand.cause = s.cause := rfl
@[simp] theorem State.refuseCommand_arg : s.refuseCommand.arg = s.arg := rfl
@[simp] theorem State.refuseCommand_inp : s.refuseCommand.inp = s.inp := rfl
@[simp] theorem State.refuseCommand_hostq : s.refuseCommand.hostq = s.hostq := rfl

@[simp] theorem State.setArg_pos (v : Word64) : (s.setArg v).pos = s.pos := rfl
@[simp] theorem State.setArg_lim (v : Word64) : (s.setArg v).lim = s.lim := rfl
@[simp] theorem State.setArg_isOpen (v : Word64) : (s.setArg v).isOpen = s.isOpen := rfl
@[simp] theorem State.setArg_cur (v : Word64) : (s.setArg v).cur = s.cur := rfl
@[simp] theorem State.setArg_mask (v : Word64) : (s.setArg v).mask = s.mask := rfl
@[simp] theorem State.setArg_node (v : Word64) : (s.setArg v).node = s.node := rfl
@[simp] theorem State.setArg_tail (v : Word64) : (s.setArg v).tail = s.tail := rfl
@[simp] theorem State.setArg_ones (v : Word64) : (s.setArg v).ones = s.ones := rfl
@[simp] theorem State.setArg_h (v : Word64) : (s.setArg v).h = s.h := rfl
@[simp] theorem State.setArg_out (v : Word64) : (s.setArg v).out = s.out := rfl
@[simp] theorem State.setArg_rKind (v : Word64) : (s.setArg v).rKind = s.rKind := rfl
@[simp] theorem State.setArg_rVal (v : Word64) : (s.setArg v).rVal = s.rVal := rfl
@[simp] theorem State.setArg_rCnt (v : Word64) : (s.setArg v).rCnt = s.rCnt := rfl
@[simp] theorem State.setArg_err (v : Word64) : (s.setArg v).err = s.err := rfl
@[simp] theorem State.setArg_cause (v : Word64) : (s.setArg v).cause = s.cause := rfl
@[simp] theorem State.setArg_arg (v : Word64) : (s.setArg v).arg = v := rfl
@[simp] theorem State.setArg_inp (v : Word64) : (s.setArg v).inp = s.inp := rfl
@[simp] theorem State.setArg_hostq (v : Word64) : (s.setArg v).hostq = s.hostq := rfl

@[simp] theorem State.withQueue_pos (q : List HostAction) : (s.withQueue q).pos = s.pos := rfl
@[simp] theorem State.withQueue_lim (q : List HostAction) : (s.withQueue q).lim = s.lim := rfl
@[simp] theorem State.withQueue_isOpen (q : List HostAction) : (s.withQueue q).isOpen = s.isOpen := rfl
@[simp] theorem State.withQueue_cur (q : List HostAction) : (s.withQueue q).cur = s.cur := rfl
@[simp] theorem State.withQueue_mask (q : List HostAction) : (s.withQueue q).mask = s.mask := rfl
@[simp] theorem State.withQueue_node (q : List HostAction) : (s.withQueue q).node = s.node := rfl
@[simp] theorem State.withQueue_tail (q : List HostAction) : (s.withQueue q).tail = s.tail := rfl
@[simp] theorem State.withQueue_ones (q : List HostAction) : (s.withQueue q).ones = s.ones := rfl
@[simp] theorem State.withQueue_h (q : List HostAction) : (s.withQueue q).h = s.h := rfl
@[simp] theorem State.withQueue_out (q : List HostAction) : (s.withQueue q).out = s.out := rfl
@[simp] theorem State.withQueue_rKind (q : List HostAction) : (s.withQueue q).rKind = s.rKind := rfl
@[simp] theorem State.withQueue_rVal (q : List HostAction) : (s.withQueue q).rVal = s.rVal := rfl
@[simp] theorem State.withQueue_rCnt (q : List HostAction) : (s.withQueue q).rCnt = s.rCnt := rfl
@[simp] theorem State.withQueue_err (q : List HostAction) : (s.withQueue q).err = s.err := rfl
@[simp] theorem State.withQueue_cause (q : List HostAction) : (s.withQueue q).cause = s.cause := rfl
@[simp] theorem State.withQueue_arg (q : List HostAction) : (s.withQueue q).arg = s.arg := rfl
@[simp] theorem State.withQueue_inp (q : List HostAction) : (s.withQueue q).inp = s.inp := rfl
@[simp] theorem State.withQueue_hostq (q : List HostAction) : (s.withQueue q).hostq = q := rfl

@[simp] theorem State.clearReader_pos : s.clearReader.pos = s.pos := rfl
@[simp] theorem State.clearReader_lim : s.clearReader.lim = s.lim := rfl
@[simp] theorem State.clearReader_isOpen : s.clearReader.isOpen = s.isOpen := rfl
@[simp] theorem State.clearReader_cur : s.clearReader.cur = 0 := rfl
@[simp] theorem State.clearReader_mask : s.clearReader.mask = 0 := rfl
@[simp] theorem State.clearReader_node : s.clearReader.node = root := rfl
@[simp] theorem State.clearReader_tail : s.clearReader.tail = 0 := rfl
@[simp] theorem State.clearReader_ones : s.clearReader.ones = true := rfl
@[simp] theorem State.clearReader_h : s.clearReader.h = s.h := rfl
@[simp] theorem State.clearReader_out : s.clearReader.out = s.out := rfl
@[simp] theorem State.clearReader_rKind : s.clearReader.rKind = s.rKind := rfl
@[simp] theorem State.clearReader_rVal : s.clearReader.rVal = s.rVal := rfl
@[simp] theorem State.clearReader_rCnt : s.clearReader.rCnt = s.rCnt := rfl
@[simp] theorem State.clearReader_err : s.clearReader.err = s.err := rfl
@[simp] theorem State.clearReader_cause : s.clearReader.cause = s.cause := rfl
@[simp] theorem State.clearReader_arg : s.clearReader.arg = s.arg := rfl
@[simp] theorem State.clearReader_inp : s.clearReader.inp = s.inp := rfl
@[simp] theorem State.clearReader_hostq : s.clearReader.hostq = s.hostq := rfl

@[simp] theorem State.openView_pos (n : Nat) : (s.openView n).pos = s.pos := rfl
@[simp] theorem State.openView_lim (n : Nat) : (s.openView n).lim = BitVec.ofNat 64 (s.pos.toNat + n) := rfl
@[simp] theorem State.openView_isOpen (n : Nat) : (s.openView n).isOpen = true := rfl
@[simp] theorem State.openView_cur (n : Nat) : (s.openView n).cur = 0 := rfl
@[simp] theorem State.openView_mask (n : Nat) : (s.openView n).mask = 0 := rfl
@[simp] theorem State.openView_node (n : Nat) : (s.openView n).node = root := rfl
@[simp] theorem State.openView_tail (n : Nat) : (s.openView n).tail = 0 := rfl
@[simp] theorem State.openView_ones (n : Nat) : (s.openView n).ones = true := rfl
@[simp] theorem State.openView_h (n : Nat) : (s.openView n).h = s.h := rfl
@[simp] theorem State.openView_out (n : Nat) : (s.openView n).out = s.out := rfl
@[simp] theorem State.openView_rKind (n : Nat) : (s.openView n).rKind = s.rKind := rfl
@[simp] theorem State.openView_rVal (n : Nat) : (s.openView n).rVal = s.rVal := rfl
@[simp] theorem State.openView_rCnt (n : Nat) : (s.openView n).rCnt = s.rCnt := rfl
@[simp] theorem State.openView_err (n : Nat) : (s.openView n).err = s.err := rfl
@[simp] theorem State.openView_cause (n : Nat) : (s.openView n).cause = s.cause := rfl
@[simp] theorem State.openView_arg (n : Nat) : (s.openView n).arg = s.arg := rfl
@[simp] theorem State.openView_inp (n : Nat) : (s.openView n).inp = s.inp := rfl
@[simp] theorem State.openView_hostq (n : Nat) : (s.openView n).hostq = s.hostq := rfl

@[simp] theorem State.closeContext_pos : s.closeContext.pos = s.pos := rfl
@[simp] theorem State.closeContext_lim : s.closeContext.lim = s.inp.len := rfl
@[simp] theorem State.closeContext_isOpen : s.closeContext.isOpen = false := rfl
@[simp] theorem State.closeContext_cur : s.closeContext.cur = 0 := rfl
@[simp] theorem State.closeContext_mask : s.closeContext.mask = 0 := rfl
@[simp] theorem State.closeContext_node : s.closeContext.node = root := rfl
@[simp] theorem State.closeContext_tail : s.closeContext.tail = 0 := rfl
@[simp] theorem State.closeContext_ones : s.closeContext.ones = true := rfl
@[simp] theorem State.closeContext_h : s.closeContext.h = s.h := rfl
@[simp] theorem State.closeContext_out : s.closeContext.out = s.out := rfl
@[simp] theorem State.closeContext_rKind : s.closeContext.rKind = s.rKind := rfl
@[simp] theorem State.closeContext_rVal : s.closeContext.rVal = s.rVal := rfl
@[simp] theorem State.closeContext_rCnt : s.closeContext.rCnt = s.rCnt := rfl
@[simp] theorem State.closeContext_err : s.closeContext.err = s.err := rfl
@[simp] theorem State.closeContext_cause : s.closeContext.cause = s.cause := rfl
@[simp] theorem State.closeContext_arg : s.closeContext.arg = s.arg := rfl
@[simp] theorem State.closeContext_inp : s.closeContext.inp = s.inp := rfl
@[simp] theorem State.closeContext_hostq : s.closeContext.hostq = s.hostq := rfl

@[simp] theorem State.pullByte_pos (b : Byte) : (s.pullByte b).pos = BitVec.ofNat 64 (s.pos.toNat + 1) := rfl
@[simp] theorem State.pullByte_lim (b : Byte) : (s.pullByte b).lim = s.lim := rfl
@[simp] theorem State.pullByte_isOpen (b : Byte) : (s.pullByte b).isOpen = s.isOpen := rfl
@[simp] theorem State.pullByte_cur (b : Byte) : (s.pullByte b).cur = b := rfl
@[simp] theorem State.pullByte_mask (b : Byte) : (s.pullByte b).mask = 0x80#8 := rfl
@[simp] theorem State.pullByte_node (b : Byte) : (s.pullByte b).node = s.node := rfl
@[simp] theorem State.pullByte_tail (b : Byte) : (s.pullByte b).tail = s.tail := rfl
@[simp] theorem State.pullByte_ones (b : Byte) : (s.pullByte b).ones = s.ones := rfl
@[simp] theorem State.pullByte_h (b : Byte) : (s.pullByte b).h = s.h := rfl
@[simp] theorem State.pullByte_out (b : Byte) : (s.pullByte b).out = s.out := rfl
@[simp] theorem State.pullByte_rKind (b : Byte) : (s.pullByte b).rKind = s.rKind := rfl
@[simp] theorem State.pullByte_rVal (b : Byte) : (s.pullByte b).rVal = s.rVal := rfl
@[simp] theorem State.pullByte_rCnt (b : Byte) : (s.pullByte b).rCnt = s.rCnt := rfl
@[simp] theorem State.pullByte_err (b : Byte) : (s.pullByte b).err = s.err := rfl
@[simp] theorem State.pullByte_cause (b : Byte) : (s.pullByte b).cause = s.cause := rfl
@[simp] theorem State.pullByte_arg (b : Byte) : (s.pullByte b).arg = s.arg := rfl
@[simp] theorem State.pullByte_inp (b : Byte) : (s.pullByte b).inp = s.inp := rfl
@[simp] theorem State.pullByte_hostq (b : Byte) : (s.pullByte b).hostq = s.hostq := rfl

@[simp] theorem State.shiftBit_pos : s.shiftBit.pos = s.pos := rfl
@[simp] theorem State.shiftBit_lim : s.shiftBit.lim = s.lim := rfl
@[simp] theorem State.shiftBit_isOpen : s.shiftBit.isOpen = s.isOpen := rfl
@[simp] theorem State.shiftBit_cur : s.shiftBit.cur = nextCur s.cur s.mask := rfl
@[simp] theorem State.shiftBit_mask : s.shiftBit.mask = nextMask s.mask := rfl
@[simp] theorem State.shiftBit_node : s.shiftBit.node = s.node := rfl
@[simp] theorem State.shiftBit_tail : s.shiftBit.tail = s.tail := rfl
@[simp] theorem State.shiftBit_ones : s.shiftBit.ones = s.ones := rfl
@[simp] theorem State.shiftBit_h : s.shiftBit.h = s.h := rfl
@[simp] theorem State.shiftBit_out : s.shiftBit.out = s.out := rfl
@[simp] theorem State.shiftBit_rKind : s.shiftBit.rKind = s.rKind := rfl
@[simp] theorem State.shiftBit_rVal : s.shiftBit.rVal = s.rVal := rfl
@[simp] theorem State.shiftBit_rCnt : s.shiftBit.rCnt = s.rCnt := rfl
@[simp] theorem State.shiftBit_err : s.shiftBit.err = s.err := rfl
@[simp] theorem State.shiftBit_cause : s.shiftBit.cause = s.cause := rfl
@[simp] theorem State.shiftBit_arg : s.shiftBit.arg = s.arg := rfl
@[simp] theorem State.shiftBit_inp : s.shiftBit.inp = s.inp := rfl
@[simp] theorem State.shiftBit_hostq : s.shiftBit.hostq = s.hostq := rfl

@[simp] theorem State.countBit_pos (b : Bool) (i : NodeId) : (s.countBit b i).pos = s.pos := rfl
@[simp] theorem State.countBit_lim (b : Bool) (i : NodeId) : (s.countBit b i).lim = s.lim := rfl
@[simp] theorem State.countBit_isOpen (b : Bool) (i : NodeId) : (s.countBit b i).isOpen = s.isOpen := rfl
@[simp] theorem State.countBit_cur (b : Bool) (i : NodeId) : (s.countBit b i).cur = s.cur := rfl
@[simp] theorem State.countBit_mask (b : Bool) (i : NodeId) : (s.countBit b i).mask = s.mask := rfl
@[simp] theorem State.countBit_node (b : Bool) (i : NodeId) : (s.countBit b i).node = i := rfl
@[simp] theorem State.countBit_tail (b : Bool) (i : NodeId) : (s.countBit b i).tail = nextTail s.tail := rfl
@[simp] theorem State.countBit_ones (b : Bool) (i : NodeId) : (s.countBit b i).ones = nextOnes s.ones b := rfl
@[simp] theorem State.countBit_h (b : Bool) (i : NodeId) : (s.countBit b i).h = s.h := rfl
@[simp] theorem State.countBit_out (b : Bool) (i : NodeId) : (s.countBit b i).out = s.out := rfl
@[simp] theorem State.countBit_rKind (b : Bool) (i : NodeId) : (s.countBit b i).rKind = s.rKind := rfl
@[simp] theorem State.countBit_rVal (b : Bool) (i : NodeId) : (s.countBit b i).rVal = s.rVal := rfl
@[simp] theorem State.countBit_rCnt (b : Bool) (i : NodeId) : (s.countBit b i).rCnt = s.rCnt := rfl
@[simp] theorem State.countBit_err (b : Bool) (i : NodeId) : (s.countBit b i).err = s.err := rfl
@[simp] theorem State.countBit_cause (b : Bool) (i : NodeId) : (s.countBit b i).cause = s.cause := rfl
@[simp] theorem State.countBit_arg (b : Bool) (i : NodeId) : (s.countBit b i).arg = s.arg := rfl
@[simp] theorem State.countBit_inp (b : Bool) (i : NodeId) : (s.countBit b i).inp = s.inp := rfl
@[simp] theorem State.countBit_hostq (b : Bool) (i : NodeId) : (s.countBit b i).hostq = s.hostq := rfl

@[simp] theorem State.toRoot_pos : s.toRoot.pos = s.pos := rfl
@[simp] theorem State.toRoot_lim : s.toRoot.lim = s.lim := rfl
@[simp] theorem State.toRoot_isOpen : s.toRoot.isOpen = s.isOpen := rfl
@[simp] theorem State.toRoot_cur : s.toRoot.cur = s.cur := rfl
@[simp] theorem State.toRoot_mask : s.toRoot.mask = s.mask := rfl
@[simp] theorem State.toRoot_node : s.toRoot.node = root := rfl
@[simp] theorem State.toRoot_tail : s.toRoot.tail = 0 := rfl
@[simp] theorem State.toRoot_ones : s.toRoot.ones = true := rfl
@[simp] theorem State.toRoot_h : s.toRoot.h = s.h := rfl
@[simp] theorem State.toRoot_out : s.toRoot.out = s.out := rfl
@[simp] theorem State.toRoot_rKind : s.toRoot.rKind = s.rKind := rfl
@[simp] theorem State.toRoot_rVal : s.toRoot.rVal = s.rVal := rfl
@[simp] theorem State.toRoot_rCnt : s.toRoot.rCnt = s.rCnt := rfl
@[simp] theorem State.toRoot_err : s.toRoot.err = s.err := rfl
@[simp] theorem State.toRoot_cause : s.toRoot.cause = s.cause := rfl
@[simp] theorem State.toRoot_arg : s.toRoot.arg = s.arg := rfl
@[simp] theorem State.toRoot_inp : s.toRoot.inp = s.inp := rfl
@[simp] theorem State.toRoot_hostq : s.toRoot.hostq = s.hostq := rfl

end

end Sys2Proof.Machine
end

