-- ==== Sys2Proof/Laws/Ops.lean ====
section
/-!
SUPPORT. What the shared operations do, once each: the input space and its canonical form, Peek, procedures, the ends of a
command.
-/

namespace Sys2Proof.Machine

/-! ### The input space -/

theorem cellsWf_mono {len lo lo' : Nat} {l : List Host.Cell} (hlo : lo' ≤ lo) (h : cellsWf len lo l = true) :
    cellsWf len lo' l = true := by
  cases l with
  | nil => rfl
  | cons c rest =>
    simp only [cellsWf, Bool.and_eq_true, decide_eq_true_eq] at h ⊢
    exact ⟨⟨⟨by omega, h.1.1.2⟩, h.1.2⟩, h.2⟩

theorem cellsWf_len {len len' lo : Nat} {l : List Host.Cell} (hl : len ≤ len') (h : cellsWf len lo l = true) :
    cellsWf len' lo l = true := by
  induction l generalizing lo with
  | nil => rfl
  | cons c rest ih =>
    simp only [cellsWf, Bool.and_eq_true, decide_eq_true_eq] at h ⊢
    exact ⟨⟨⟨h.1.1.1, by omega⟩, h.1.2⟩, ih h.2⟩

theorem cellAt_below {len lo a : Nat} {l : List Host.Cell} (h : cellsWf len lo l = true) (ha : a < lo) :
    cellAt a l = 0#8 := by
  induction l generalizing lo with
  | nil => rfl
  | cons c rest ih =>
    simp only [cellsWf, Bool.and_eq_true, decide_eq_true_eq] at h
    rw [cellAt, if_neg (by omega)]
    exact ih h.2 (by omega)

theorem setCell_wf {len lo a : Nat} {b : Byte} {l : List Host.Cell} (h : cellsWf len lo l = true) (hlo : lo ≤ a)
    (hlen : a < len) : cellsWf len lo (setCell a b l) = true := by
  induction l generalizing lo with
  | nil =>
    by_cases hb : b = 0#8
    · simp [setCell, hb, cellsWf]
    · simp [setCell, hb, cellsWf, hlo, hlen]
  | cons c rest ih =>
    have hc := h
    simp only [cellsWf, Bool.and_eq_true, decide_eq_true_eq] at h
    simp only [setCell]
    split
    · simp only [cellsWf, Bool.and_eq_true, decide_eq_true_eq]
      exact ⟨h.1, ih h.2 (by omega)⟩
    · by_cases hk : c.1 = a
      · have hrest : cellsWf len (a + 1) rest = true := hk ▸ h.2
        by_cases hb : b = 0#8
        · simpa [hk, hb] using cellsWf_mono (by omega) hrest
        · simp [hk, hb, cellsWf, hlo, hlen, hrest]
      · have hrest : cellsWf len (a + 1) (c :: rest) = true := by
          simp only [cellsWf, Bool.and_eq_true, decide_eq_true_eq]
          exact ⟨⟨⟨by omega, h.1.1.2⟩, h.1.2⟩, h.2⟩
        by_cases hb : b = 0#8
        · simpa [hk, hb] using hc
        · simp only [hk, hb, if_false]
          rw [cellsWf]
          simp [hlo, hlen, hb, hrest]

theorem cellAt_setCell {len lo a a' : Nat} {b : Byte} {l : List Host.Cell} (h : cellsWf len lo l = true) :
    cellAt a' (setCell a b l) = if a' = a then b else cellAt a' l := by
  induction l generalizing lo with
  | nil =>
    by_cases hb : b = 0#8
    · simp [setCell, hb, cellAt]
    · simp [setCell, hb, cellAt, eq_comm]
  | cons c rest ih =>
    simp only [cellsWf, Bool.and_eq_true, decide_eq_true_eq] at h
    have hih := ih h.2
    simp only [setCell]
    split
    · simp only [cellAt, hih]
      split <;> split <;> first | rfl | omega
    · have hz : cellAt a rest = 0#8 := cellAt_below h.2 (by omega)
      by_cases hk : c.1 = a <;> by_cases hb : b = 0#8 <;> by_cases ha : a' = a
      · subst ha; simp [hk, hb, hz]
      · simp [hk, hb, ha, cellAt, Ne.symm ha]
      · subst ha; simp [hk, hb, cellAt]
      · simp [hk, hb, ha, cellAt, Ne.symm ha]
      · subst ha; simp [hk, hb, cellAt, hz]
      · simp [hk, hb, ha, cellAt]
      · subst ha; simp [hk, hb, cellAt]
      · simp [hk, hb, ha, cellAt, Ne.symm ha]

/-- The input space of the reset state has the canonical form. -/
theorem reset_inp_wf : State.reset.inp.wf = true := rfl

/-- Read after write of the input space. -/
theorem Memory.read_write {m : Memory} (h : m.wf = true) (a a' : Nat) (b : Byte) :
    (m.write a b).read a' = if a' = a ∧ a < m.len.toNat then some b else m.read a' := by
  unfold Memory.write
  split
  · next hl =>
    simp only [Memory.read, cellAt_setCell h]
    by_cases ha : a' = a <;> simp [ha, hl]
  · next hl => simp [hl]

@[simp] theorem Memory.write_len (m : Memory) (a : Nat) (b : Byte) : (m.write a b).len = m.len := by
  unfold Memory.write; split <;> rfl

/-- A write keeps the canonical form. -/
theorem Memory.write_wf {m : Memory} (h : m.wf = true) (a : Nat) (b : Byte) : (m.write a b).wf = true := by
  unfold Memory.write
  split
  · next hl => exact setCell_wf h (Nat.zero_le a) hl
  · exact h

theorem Memory.writeBytes_wf {m : Memory} (h : m.wf = true) (a : Nat) (bs : List Byte) :
    (m.writeBytes a bs).wf = true := by
  induction bs generalizing m a with
  | nil => exact h
  | cons b bs ih => exact ih (Memory.write_wf h a b) (a + 1)

theorem Memory.extendTo_wf {m : Memory} (h : m.wf = true) (n : Word64) : (m.extendTo n).wf = true := by
  unfold Memory.extendTo
  split
  · next hl => exact cellsWf_len (show m.len.toNat ≤ n.toNat by omega) h
  · exact h

theorem cellsFrom_wf (len a : Nat) (bs : List Byte) (h : a + bs.length ≤ len) :
    cellsWf len a (cellsFrom a bs) = true := by
  induction bs generalizing a with
  | nil => rfl
  | cons b bs ih =>
    simp only [List.length_cons] at h
    have hrest := ih (a + 1) (by omega)
    unfold cellsFrom
    split
    · exact cellsWf_mono (by omega) hrest
    · next hb =>
      rw [cellsWf]
      simp [hb, hrest, show a < len by omega]

theorem cellAt_cellsFrom (a : Nat) (bs : List Byte) (i : Nat) :
    cellAt (a + i) (cellsFrom a bs) = (bs[i]?).getD 0#8 := by
  induction bs generalizing a i with
  | nil => simp [cellsFrom, cellAt]
  | cons b bs ih =>
    have hrest : ∀ j, cellAt (a + 1 + j) (cellsFrom (a + 1) bs) = (bs[j]?).getD 0#8 := ih (a + 1)
    have hlow : cellAt a (cellsFrom (a + 1) bs) = 0#8 :=
      cellAt_below (cellsFrom_wf (a + 1 + bs.length) (a + 1) bs (Nat.le_refl _)) (by omega)
    cases i with
    | zero =>
      unfold cellsFrom
      split
      · next hb => simp [hb, hlow]
      · simp [cellAt]
    | succ i =>
      have := hrest i
      rw [show a + 1 + i = a + (i + 1) by omega] at this
      unfold cellsFrom
      split
      · simpa using this
      · simp [cellAt, this]

/-- The input space of a byte sequence is in canonical form. -/
theorem Memory.ofBytes_wf (bs : List Byte) (h : bs.length < 2 ^ 64) : (Memory.ofBytes bs).wf = true := by
  refine cellsFrom_wf _ 0 bs ?_
  simp only [Memory.ofBytes, BitVec.toNat_ofNat]
  omega

/-- The `n` bytes from `a` are all there when they lie below IN_LEN. -/
theorem Memory.bytes_length {m : Memory} {a n : Nat} (h : a + n ≤ m.len.toNat) : (m.bytes a n).length = n := by
  induction n generalizing a with
  | zero => rfl
  | succ n ih =>
    unfold Memory.bytes
    have : m.read a = some (cellAt a m.cells) := by rw [Memory.read, if_pos (by omega)]
    simp [this, ih (a := a + 1) (by omega)]

/-- The first of several bytes. -/
theorem Memory.bytes_succ {m : Memory} {a n : Nat} {b : Byte} (h : m.read a = some b) :
    m.bytes a (n + 1) = b :: m.bytes (a + 1) n := by
  simp [Memory.bytes, h]

/-- Below IN_LEN every byte exists. -/
theorem Memory.read_some {m : Memory} {a : Nat} (h : a < m.len.toNat) : m.read a = some (cellAt a m.cells) := by
  rw [Memory.read, if_pos h]

/-! ### Peek -/

/-- What Peek finds in a view inside IN: the end-marker at `lim`, else a byte below it. -/
theorem State.peek_cases {s : State} (hp : s.pos.toNat ≤ s.lim.toNat) (hl : s.lim.toNat ≤ s.inp.len.toNat) :
    (s.pos = s.lim ∧ s.peek = .endMarker) ∨
    ∃ b, s.pos.toNat < s.lim.toNat ∧ s.inp.read s.pos.toNat = some b ∧ s.peek = .byte b := by
  by_cases h : s.pos = s.lim
  · exact .inl ⟨h, by simp [State.peek, h]⟩
  · have hlt : s.pos.toNat < s.lim.toNat := by
      rcases Nat.lt_or_ge s.pos.toNat s.lim.toNat with hc | hc
      · exact hc
      · exact absurd (BitVec.eq_of_toNat_eq (by omega)) h
    have hr := Memory.read_some (m := s.inp) (a := s.pos.toNat) (by omega)
    exact .inr ⟨_, hlt, hr, by simp [State.peek, h, hr]⟩

/-! ### Procedures and the ends of a command -/

@[simp] theorem Proc.bind_done {α β : Type} (a : α) (s : State) (k : α → State → Proc β) :
    (Proc.done a s).bind k = k a s := rfl

@[simp] theorem Proc.bind_raised {α β : Type} (c : Cause) (s : State) (k : α → State → Proc β) :
    (Proc.raised c s : Proc α).bind k = .raised c s := rfl

@[simp] theorem Proc.bind_fault {α β : Type} (f : Fault) (k : α → State → Proc β) :
    (Proc.fault f : Proc α).bind k = .fault f := rfl

/-- A sequence ends where its second part ends, or where its first part raises or stops. -/
theorem Proc.bind_cases {α β : Type} {p : Proc α} {k : α → State → Proc β} {r : Proc β} (h : p.bind k = r) :
    (∃ a s, p = .done a s ∧ k a s = r) ∨ (∃ c s, p = .raised c s ∧ r = .raised c s) ∨
    ∃ f, p = .fault f ∧ r = .fault f := by
  cases p with
  | done a s => exact .inl ⟨a, s, rfl, h⟩
  | raised c s => exact .inr (.inl ⟨c, s, rfl, h.symm⟩)
  | fault f => exact .inr (.inr ⟨f, rfl, h.symm⟩)

@[simp] theorem Proc.commit_done {α : Type} (a : α) (s : State) (g : α → State → State) :
    (Proc.done a s).commit g = .next (g a s) := rfl

@[simp] theorem Proc.commit_raised {α : Type} (c : Cause) (s : State) (g : α → State → State) :
    (Proc.raised c s : Proc α).commit g = .next (s.raiseError c) := rfl

@[simp] theorem Proc.commit_fault {α : Type} (f : Fault) (g : α → State → State) :
    (Proc.fault f : Proc α).commit g = .fault f := rfl

/-- A command that answers a next state has succeeded or made the error entry. -/
theorem Proc.commit_next {α : Type} {p : Proc α} {g : α → State → State} {t : State} (h : p.commit g = .next t) :
    (∃ a s, p = .done a s ∧ t = g a s) ∨ ∃ c s, p = .raised c s ∧ t = s.raiseError c := by
  cases p with
  | done a s => exact .inl ⟨a, s, rfl, by cases h; rfl⟩
  | raised c s => exact .inr ⟨c, s, rfl, by cases h; rfl⟩
  | fault f => cases h

/-- A command while `err = 1`. -/
theorem unlessError_of_err {s : State} (h : s.err = true) (body : State → Host.Outcome State Fault Refusal) :
    unlessError body s = .next s.refuseCommand := by
  simp [unlessError, h]

/-- A command while `err = 0`. -/
theorem unlessError_of_ok {s : State} (h : s.err = false) (body : State → Host.Outcome State Fault Refusal) :
    unlessError body s = body s := by
  simp [unlessError, h]

end Sys2Proof.Machine
end

