-- ==== Sys2Proof/Laws/BitReader.lean ====
section
/-!
SUPPORT. What the BitReader's operations do, once each: the two halves of BITSTEP, BITSTEP, readNext and the walk of a code
word, with what they leave unchanged.
-/

namespace Sys2Proof.Machine

/-- Everything but `pos` and the BitReader registers is the same. -/
structure SameButReader (s t : State) : Prop where
  lim : t.lim = s.lim
  isOpen : t.isOpen = s.isOpen
  h : t.h = s.h
  out : t.out = s.out
  rKind : t.rKind = s.rKind
  rVal : t.rVal = s.rVal
  rCnt : t.rCnt = s.rCnt
  err : t.err = s.err
  cause : t.cause = s.cause
  arg : t.arg = s.arg
  inp : t.inp = s.inp
  hostq : t.hostq = s.hostq

theorem SameButReader.refl (s : State) : SameButReader s s :=
  ⟨rfl, rfl, rfl, rfl, rfl, rfl, rfl, rfl, rfl, rfl, rfl, rfl⟩

theorem SameButReader.trans {s t u : State} (h : SameButReader s t) (h' : SameButReader t u) : SameButReader s u :=
  ⟨h'.lim.trans h.lim, h'.isOpen.trans h.isOpen, h'.h.trans h.h, h'.out.trans h.out, h'.rKind.trans h.rKind,
    h'.rVal.trans h.rVal, h'.rCnt.trans h.rCnt, h'.err.trans h.err, h'.cause.trans h.cause, h'.arg.trans h.arg,
    h'.inp.trans h.inp, h'.hostq.trans h.hostq⟩

/-- A procedure changes at most `pos` and the BitReader registers, and raises only Huffman causes. -/
def ReaderOnly {α : Type} (s : State) (p : Proc α) : Prop :=
  match p with
  | .done _ t => SameButReader s t
  | .raised c t => SameButReader s t ∧ (c = .hufBadTail ∨ c = .hufEos)
  | .fault _ => True

theorem ReaderOnly.bind {α β : Type} {s : State} {p : Proc α} {k : α → State → Proc β} (hp : ReaderOnly s p)
    (hk : ∀ a t, p = .done a t → ReaderOnly t (k a t)) : ReaderOnly s (p.bind k) := by
  cases p with
  | done a t =>
    have hs : SameButReader s t := hp
    have h := hk a t rfl
    simp only [Proc.bind_done]
    revert h
    cases k a t with
    | done b u => exact fun h => hs.trans h
    | raised c u => exact fun h => ⟨hs.trans h.1, h.2⟩
    | fault f => exact fun _ => trivial
  | raised c t => exact hp
  | fault f => trivial

/-- The first half of BITSTEP: the end of the view, a byte pulled and its bit 7 taken, a bit of the pending byte, or no byte
where the view has one. -/
theorem takeBit_cases (s : State) :
    (s.mask = 0#8 ∧ s.peek = .endMarker ∧ takeBit s = .done none s) ∨
    (∃ b, s.mask = 0#8 ∧ s.peek = .byte b ∧
      takeBit s = .done (some (currentBit b 0x80#8)) (s.pullByte b).shiftBit) ∨
    (s.mask ≠ 0#8 ∧ takeBit s = .done (some (currentBit s.cur s.mask)) s.shiftBit) ∨
    (s.mask = 0#8 ∧ s.peek = .missing ∧ takeBit s = .fault .noSuchInputByte) := by
  unfold takeBit
  by_cases hm : s.mask = 0#8
  · cases hp : s.peek with
    | endMarker => exact .inl ⟨hm, rfl, by simp [hm]⟩
    | byte b => exact .inr (.inl ⟨b, hm, rfl, by simp [hm]⟩)
    | missing => exact .inr (.inr (.inr ⟨hm, rfl, by simp [hm]⟩))
  · exact .inr (.inr (.inl ⟨hm, by simp [hm]⟩))

theorem takeBit_readerOnly (s : State) : ReaderOnly s (takeBit s) := by
  rcases takeBit_cases s with ⟨_, _, h⟩ | ⟨b, _, _, h⟩ | ⟨_, h⟩ | ⟨_, _, h⟩ <;> rw [h]
  · exact SameButReader.refl s
  · exact ⟨rfl, rfl, rfl, rfl, rfl, rfl, rfl, rfl, rfl, rfl, rfl, rfl⟩
  · exact ⟨rfl, rfl, rfl, rfl, rfl, rfl, rfl, rfl, rfl, rfl, rfl, rfl⟩
  · trivial

/-- The end of the view: END or HUF_BAD_TAIL, and no register changes (R146). -/
theorem endOfView_cases (s : State) :
    (cleanEnd s = true ∧ endOfView s = .done .atEnd s) ∨ (cleanEnd s = false ∧ endOfView s = .raised .hufBadTail s) := by
  unfold endOfView
  cases hc : cleanEnd s
  · exact .inr ⟨rfl, by simp⟩
  · exact .inl ⟨rfl, by simp⟩

theorem endOfView_readerOnly (s : State) : ReaderOnly s (endOfView s) := by
  rcases endOfView_cases s with ⟨_, h⟩ | ⟨_, h⟩ <;> rw [h]
  · exact SameButReader.refl s
  · exact ⟨SameButReader.refl s, .inl rfl⟩

/-- The second half of BITSTEP: an internal node, EOS, or a symbol (R141). -/
theorem descend_cases (b : Bool) (s : State) :
    (∃ i, nextChild s.node b = .node i ∧ descend b s = .done .goOn (s.countBit b i)) ∨
    (nextChild s.node b = .leaf Config.eos ∧ descend b s = .raised .hufEos s.toRoot) ∨
    (∃ sym, nextChild s.node b = .leaf sym ∧ sym ≠ Config.eos ∧
      descend b s = .done (.symbol (BitVec.ofNat 8 sym)) s.toRoot) := by
  unfold descend
  cases hc : nextChild s.node b with
  | node i => exact .inl ⟨i, rfl, rfl⟩
  | leaf sym =>
    by_cases he : sym = Config.eos
    · exact .inr (.inl ⟨by rw [he], by simp [he]⟩)
    · exact .inr (.inr ⟨sym, rfl, he, by simp [he]⟩)

theorem descend_readerOnly (b : Bool) (s : State) : ReaderOnly s (descend b s) := by
  rcases descend_cases b s with ⟨i, _, h⟩ | ⟨_, h⟩ | ⟨sym, _, _, h⟩ <;> rw [h]
  · exact ⟨rfl, rfl, rfl, rfl, rfl, rfl, rfl, rfl, rfl, rfl, rfl, rfl⟩
  · exact ⟨⟨rfl, rfl, rfl, rfl, rfl, rfl, rfl, rfl, rfl, rfl, rfl, rfl⟩, .inr rfl⟩
  · exact ⟨rfl, rfl, rfl, rfl, rfl, rfl, rfl, rfl, rfl, rfl, rfl, rfl⟩

theorem bitStep_readerOnly (s : State) : ReaderOnly s (bitStep s) :=
  (takeBit_readerOnly s).bind fun bit t _ => by
    cases bit
    · exact endOfView_readerOnly t
    · exact descend_readerOnly _ t

theorem codeStep_readerOnly (c : Bool) (s : State) : ReaderOnly s (codeStep c s) :=
  (takeBit_readerOnly s).bind fun bit t _ => by
    cases bit
    · exact endOfView_readerOnly t
    · exact descend_readerOnly _ t

theorem bitLoop_readerOnly (n : Nat) (s : State) : ReaderOnly s (bitLoop n s) := by
  induction n generalizing s with
  | zero => trivial
  | succ n ih =>
    refine (bitStep_readerOnly s).bind fun r t _ => ?_
    cases r
    · exact ih t
    · exact SameButReader.refl t
    · exact SameButReader.refl t

/-- readNext changes at most `pos` and the BitReader registers, and raises only HUF_BAD_TAIL or HUF_EOS. -/
theorem readNext_readerOnly (s : State) : ReaderOnly s (readNext s) := bitLoop_readerOnly _ s

theorem walkCode_readerOnly (code : List Bool) (s : State) : ReaderOnly s (walkCode code s) := by
  induction code generalizing s with
  | nil => exact readNext_readerOnly s
  | cons c cs ih =>
    refine (codeStep_readerOnly c s).bind fun r t _ => ?_
    cases r
    · exact ih t
    · exact SameButReader.refl t
    · exact SameButReader.refl t

/-- The result of RDSYM changes only the result registers. -/
theorem deliverSymbol_cases (r : Option Byte) (s : State) :
    (∃ v, r = some v ∧ deliverSymbol r s = s.setResult .symbol v.toNat 0) ∨
    (r = none ∧ deliverSymbol r s = s.setResult .streamEnd 0 0) := by
  cases r with
  | some v => exact .inl ⟨v, rfl, rfl⟩
  | none => exact .inr ⟨rfl, rfl⟩

/-- What RDSYM can do while `err = 0`: nothing but ILLEGAL_COMMAND outside a context, else one readNext. -/
theorem execRdsym_of_ok {s : State} (h : s.err = false) :
    execRdsym s = if s.isOpen then (readNext s).commit deliverSymbol else .next (s.raiseError .illegalCommand) :=
  unlessError_of_ok h _

/-- What a code word can do while `err = 0`. -/
theorem execCode_of_ok {s : State} (h : s.err = false) (code : List Bool) :
    execCode code s =
      if s.isOpen then (walkCode code s).commit deliverSymbol else .next (s.raiseError .illegalCommand) :=
  unlessError_of_ok h _

end Sys2Proof.Machine
end

