-- ==== Sys2Proof/Laws/Decoders.lean ====
section
/-!
SUPPORT. What the procedures of the integer and string decoders do, once each: IntCore, the copy loop, the body loop, the
Huffman body.
-/

namespace Sys2Proof.Machine

/-- Only `pos` has changed. -/
def OnlyPos (s t : State) : Prop := t = { s with pos := t.pos }

/-- IntCore changes `pos` only and raises only INT_TRUNCATED or INT_OVERFLOW. -/
def PosOnly {α : Type} (s : State) (p : Proc α) : Prop :=
  match p with
  | .done _ t => OnlyPos s t
  | .raised c t => OnlyPos s t ∧ (c = .intTruncated ∨ c = .intOverflow)
  | .fault _ => True

theorem OnlyPos.advance (s : State) (n : Nat) : OnlyPos s (s.advance n) := rfl

theorem OnlyPos.trans {s t u : State} (h : OnlyPos s t) (h' : OnlyPos t u) : OnlyPos s u := by
  unfold OnlyPos at *
  rw [h', h]

theorem PosOnly.after {α : Type} {s t : State} {p : Proc α} (h : OnlyPos s t) (hp : PosOnly t p) : PosOnly s p := by
  cases p with
  | done a u => exact h.trans hp
  | raised c u => exact ⟨h.trans hp.1, hp.2⟩
  | fault f => trivial

theorem intLoop_posOnly (fuel acc shift count : Nat) (s : State) : PosOnly s (intLoop fuel acc shift count s) := by
  induction fuel generalizing acc shift count s with
  | zero =>
    unfold intLoop
    cases s.peek
    · exact ⟨rfl, .inl rfl⟩
    · trivial
    · trivial
  | succ fuel ih =>
    unfold intLoop
    cases s.peek with
    | endMarker => exact ⟨rfl, .inl rfl⟩
    | missing => trivial
    | byte b =>
      dsimp only
      split
      · exact ⟨OnlyPos.advance s 1, .inr rfl⟩
      · split
        · exact (ih _ _ _ _).after (OnlyPos.advance s 1)
        · exact OnlyPos.advance s 1

theorem intCore_posOnly (n : Nat) (s : State) : PosOnly s (intCore n s) := by
  unfold intCore
  cases s.peek with
  | endMarker => exact ⟨rfl, .inl rfl⟩
  | missing => trivial
  | byte b =>
    dsimp only
    split
    · exact OnlyPos.advance s 1
    · exact (intLoop_posOnly _ _ _ _ _).after (OnlyPos.advance s 1)

/-- The raw copy appends the bytes of IN and changes nothing else; it stops only where IN has no byte. -/
theorem copyLoop_eq (n a : Nat) (s : State) (h : a + n ≤ s.inp.len.toNat) :
    copyLoop n a s = .done () { s with out := s.out ++ s.inp.bytes a n } := by
  induction n generalizing a s with
  | zero => simp [copyLoop, Memory.bytes]
  | succ n ih =>
    have hr : s.inp.read a = some (cellAt a s.inp.cells) := Memory.read_some (by omega)
    rw [copyLoop, hr, Memory.bytes_succ hr]
    exact (ih (a + 1) _ (by simpa using by omega)).trans (by simp [State.outAppend])

/-- Where the raw copy ends, it has changed OUT only. -/
theorem copyLoop_done {n a : Nat} {s t : State} (h : copyLoop n a s = .done () t) :
    t = { s with out := t.out } := by
  induction n generalizing a s with
  | zero => cases h; rfl
  | succ n ih =>
    unfold copyLoop at h
    cases hr : s.inp.read a with
    | none => simp [hr] at h
    | some b =>
      rw [hr] at h
      have := ih h
      rw [this]
      rfl

theorem copyLoop_not_raised {n a : Nat} {s : State} {c : Cause} {t : State} : copyLoop n a s ≠ .raised c t := by
  induction n generalizing a s with
  | zero => simp [copyLoop]
  | succ n ih =>
    unfold copyLoop
    cases s.inp.read a with
    | none => simp
    | some b => exact ih

/-- OpenContext either raises STR_TRUNCATED and changes nothing, or opens the view (R140). -/
theorem openContext_cases (len : Nat) (s : State) :
    (s.bytesLeft < len ∧ openContext len s = .raised .strTruncated s) ∨
    (len ≤ s.bytesLeft ∧ openContext len s = .done () (s.openView len)) := by
  unfold openContext
  split
  · next h => exact .inl ⟨h, rfl⟩
  · next h => exact .inr ⟨by omega, rfl⟩

/-- The body loop and what it leaves unchanged: everything but `pos`, the reader and OUT, to which it only appends. -/
structure SameButBody (s t : State) : Prop where
  lim : t.lim = s.lim
  isOpen : t.isOpen = s.isOpen
  h : t.h = s.h
  out : ∃ more, t.out = s.out ++ more
  rKind : t.rKind = s.rKind
  rVal : t.rVal = s.rVal
  rCnt : t.rCnt = s.rCnt
  err : t.err = s.err
  cause : t.cause = s.cause
  arg : t.arg = s.arg
  inp : t.inp = s.inp
  hostq : t.hostq = s.hostq

theorem SameButReader.toBody {s t : State} (h : SameButReader s t) : SameButBody s t :=
  ⟨h.lim, h.isOpen, h.h, ⟨[], by simp [h.out]⟩, h.rKind, h.rVal, h.rCnt, h.err, h.cause, h.arg, h.inp, h.hostq⟩

theorem SameButBody.trans {s t u : State} (h : SameButBody s t) (h' : SameButBody t u) : SameButBody s u := by
  obtain ⟨m, hm⟩ := h.out
  obtain ⟨m', hm'⟩ := h'.out
  exact ⟨h'.lim.trans h.lim, h'.isOpen.trans h.isOpen, h'.h.trans h.h, ⟨m ++ m', by rw [hm', hm, List.append_assoc]⟩,
    h'.rKind.trans h.rKind, h'.rVal.trans h.rVal, h'.rCnt.trans h.rCnt, h'.err.trans h.err, h'.cause.trans h.cause,
    h'.arg.trans h.arg, h'.inp.trans h.inp, h'.hostq.trans h.hostq⟩

theorem SameButBody.outAppend (s : State) (v : Byte) : SameButBody s (s.outAppend v) :=
  ⟨rfl, rfl, rfl, ⟨[v], rfl⟩, rfl, rfl, rfl, rfl, rfl, rfl, rfl, rfl⟩

/-- The body loop changes at most `pos`, the reader and OUT, appends at most `n` bytes, and raises only HUF_BAD_TAIL or
HUF_EOS. -/
theorem bodyLoop_cases (n : Nat) (s : State) :
    (∃ t, bodyLoop n s = .done () t ∧ SameButBody s t ∧ t.out.length ≤ s.out.length + n) ∨
    (∃ c t, bodyLoop n s = .raised c t ∧ SameButBody s t ∧ (c = .hufBadTail ∨ c = .hufEos)) ∨
    ∃ f, bodyLoop n s = .fault f := by
  induction n generalizing s with
  | zero => exact .inl ⟨s, rfl, (SameButReader.refl s).toBody, by omega⟩
  | succ n ih =>
    unfold bodyLoop
    have hr := readNext_readerOnly s
    cases hrn : readNext s with
    | fault f => exact .inr (.inr ⟨f, rfl⟩)
    | raised c t =>
      rw [hrn] at hr
      exact .inr (.inl ⟨c, t, rfl, hr.1.toBody, hr.2⟩)
    | done r t =>
      rw [hrn] at hr
      have hb : SameButBody s t := (show SameButReader s t from hr).toBody
      have hout : t.out = s.out := (show SameButReader s t from hr).out
      cases r with
      | none => exact .inl ⟨t, rfl, hb, by rw [hout]; omega⟩
      | some v =>
        have hb' := hb.trans (SameButBody.outAppend t v)
        rcases ih (t.outAppend v) with ⟨u, hu, hs, hl⟩ | ⟨c, u, hu, hs, hc⟩ | ⟨f, hf⟩
        · exact .inl ⟨u, hu, hb'.trans hs, by simp [hout] at hl; omega⟩
        · exact .inr (.inl ⟨c, u, hu, hb'.trans hs, hc⟩)
        · exact .inr (.inr ⟨f, hf⟩)

end Sys2Proof.Machine
end

