-- ==== Sys2Proof/Laws/Dispatch.lean ====
section
/-!
SUPPORT. The instructions by kind: six commands, or the code word of a row; and what the dispatch does with a code word.
-/

namespace Sys2Proof.Machine

/-- A code word is the instruction of the row of its symbol. -/
theorem row_of_symbol (i : Instr) :
    i.symbol? = none ∨ ∃ k, i.symbol? = some k ∧ (hufRows[k]?).map HufRow.instr = some i := by
  cases i with
  | decint _ | decstr | dechuf | bropen | rdsym | brclose => exact .inl rfl
  | _ => exact .inr ⟨_, rfl, rfl⟩

/-- Every instruction is one of the six commands or the code word of a row. -/
theorem instr_cases (i : Instr) :
    (∃ n, i = .decint n) ∨ i = .decstr ∨ i = .dechuf ∨ i = .bropen ∨ i = .rdsym ∨ i = .brclose ∨
    ∃ r ∈ hufRows, i = r.instr := by
  rcases row_of_symbol i with h | ⟨k, _, h⟩
  · cases i with
    | decint n => exact .inl ⟨n, rfl⟩
    | decstr => exact .inr (.inl rfl)
    | dechuf => exact .inr (.inr (.inl rfl))
    | bropen => exact .inr (.inr (.inr (.inl rfl)))
    | rdsym => exact .inr (.inr (.inr (.inr (.inl rfl))))
    | brclose => exact .inr (.inr (.inr (.inr (.inr (.inl rfl)))))
    | _ => simp [Instr.symbol?] at h
  · obtain ⟨r, hr, hi⟩ := Option.map_eq_some_iff.1 h
    exact .inr (.inr (.inr (.inr (.inr (.inr ⟨r, List.mem_of_getElem? hr, hi.symm⟩)))))

/-- The dispatch of a code word, by its symbol. -/
theorem exec_of_symbol (i : Instr) (s : State) :
    i.symbol? = none ∨ ∃ k, i.symbol? = some k ∧ exec i s = execCode (hufCode k) s := by
  cases i with
  | decint _ | decstr | dechuf | bropen | rdsym | brclose => exact .inl rfl
  | _ => exact .inr ⟨_, rfl, rfl⟩

/-- Rows stand at their symbols, and their instructions are the code words of those symbols. -/
theorem hufRows_symbols :
    hufRows.map (fun r => r.instr.symbol?) = (List.range 257).map some ∧ hufRows.map HufRow.symbol = List.range 257 := by
  decide +kernel

theorem row_facts {r : HufRow} (h : r ∈ hufRows) :
    hufRows[r.symbol]? = some r ∧ r.instr.symbol? = some r.symbol ∧ r.symbol < 257 := by
  obtain ⟨k, hk, rfl⟩ := List.getElem_of_mem h
  have hlen : hufRows.length = 257 := by
    have := congrArg List.length hufRows_symbols.2
    simpa using this
  have h1 : hufRows[k].symbol = k := by
    have := congrArg (fun l => l[k]?) hufRows_symbols.2
    simp only [List.getElem?_map, List.getElem?_eq_getElem hk, Option.map_some] at this
    rw [List.getElem?_range (by omega)] at this
    exact Option.some.inj this
  have h2 : hufRows[k].instr.symbol? = some k := by
    have := congrArg (fun l => l[k]?) hufRows_symbols.1
    simp only [List.getElem?_map, List.getElem?_eq_getElem hk, Option.map_some] at this
    rw [List.getElem?_range (by omega)] at this
    simpa using this
  rw [h1]
  exact ⟨List.getElem?_eq_getElem hk, h2, by omega⟩

/-- The code of a row's symbol is the row's code. -/
theorem hufCode_of_row {r : HufRow} (h : r ∈ hufRows) : hufCode r.symbol = r.bits := by
  simp [hufCode, (row_facts h).1]

/-- The dispatch of a row's instruction: a code word with the row's code. -/
theorem exec_row {r : HufRow} (h : r ∈ hufRows) (s : State) : exec r.instr s = execCode r.bits s := by
  rcases exec_of_symbol r.instr s with hn | ⟨k, hk, he⟩
  · simp [(row_facts h).2.1] at hn
  · rw [(row_facts h).2.1] at hk
    rw [he, ← Option.some.inj hk, hufCode_of_row h]

/-! What each command does while `err = 0`, its body laid open once. -/

section
variable {s : State} (h : s.err = false)
include h

theorem exec_decint_of_ok (n : Nat) :
    exec (.decint n) s =
      if s.isOpen then .next (s.raiseError .illegalCommand)
      else if legalPrefixSize n then (intCore n s).commit fun r s => s.setResult .value r.1 r.2
      else .next (s.raiseError .badPrefixSize) :=
  (by rw [execDecint, unlessError_of_ok h] : execDecint n s = _)

theorem exec_bropen_of_ok :
    exec .bropen s =
      if s.isOpen then .next (s.raiseError .illegalCommand)
      else (openContext (byteLength s) s).commit fun _ s => s.setResult .none 0 0 :=
  (by rw [execBropen, unlessError_of_ok h] : execBropen s = _)

theorem exec_rdsym_of_ok :
    exec .rdsym s =
      if s.isOpen then (readNext s).commit deliverSymbol else .next (s.raiseError .illegalCommand) :=
  (by rw [execRdsym, unlessError_of_ok h] : execRdsym s = _)

theorem exec_brclose_of_ok :
    exec .brclose s =
      if s.isOpen then .next (s.closeContext.setResult .none 0 0) else .next (s.raiseError .illegalCommand) :=
  (by rw [execBrclose, unlessError_of_ok h] : execBrclose s = _)

theorem exec_row_of_ok {r : HufRow} (hr : r ∈ hufRows) :
    exec r.instr s =
      if s.isOpen then (walkCode r.bits s).commit deliverSymbol else .next (s.raiseError .illegalCommand) :=
  (exec_row hr s).trans (execCode_of_ok h _)

theorem exec_dechuf_of_ok :
    exec .dechuf s =
      if s.isOpen then .next (s.raiseError .illegalCommand)
      else (hufBody (byteLength s) s.clearOut).commit fun _ s' => s'.setResult .string (byteLength s) (byteLength s) :=
  (by rw [execDechuf, unlessError_of_ok h] : execDechuf s = _)

/-- DECSTR after its checks, on a view whose first byte is `b` (R162). -/
theorem exec_decstr_of_ok :
    exec .decstr s =
      if s.isOpen then .next (s.raiseError .illegalCommand)
      else
        match s.clearOut.peek with
        | .endMarker => .next (s.clearOut.raiseError .intTruncated)
        | .missing => .fault .noSuchInputByte
        | .byte b => (stringField b (s.clearOut.setH (huffmanFlag b))).commit fun r s3 =>
            s3.setResult .string r.1 (r.2 + r.1) :=
  (unlessError_of_ok h _ : execDecstr s = _)

end

end Sys2Proof.Machine
end

