-- ==== Sys2Proof/Laws/PerInstr.lean ====
section
/-!
SUPPORT. Facts made per instruction. The family EncodingShape says what kind of word each instruction has and
how long it is (spec 30_encoding.md R90: a command is one byte; R98: a code has 5 to 30 bits).
-/

namespace Sys2Proof.Laws.EncodingShape

/-- A command encodes to one command byte; a code word encodes to a code of MINLEN to MAXLEN bits. -/
def hasShape (i : Instr) : Bool :=
  match encode i with
  | .command _ => i.isCommand
  | .code bits => !i.isCommand && decide (Config.minLen ≤ bits.length) && decide (bits.length ≤ Config.maxLen)

def Statement (i : Instr) : Prop := hasShape i = true

theorem decint (n : Nat) : Statement (.decint n) := rfl
theorem decstr : Statement .decstr := rfl
theorem dechuf : Statement .dechuf := rfl
theorem bropen : Statement .bropen := rfl
theorem rdsym : Statement .rdsym := rfl
theorem brclose : Statement .brclose := rfl
theorem huf0 : Statement .huf0 := rfl
theorem huf1 : Statement .huf1 := rfl
theorem huf2 : Statement .huf2 := rfl
theorem huf3 : Statement .huf3 := rfl
theorem huf4 : Statement .huf4 := rfl
theorem huf5 : Statement .huf5 := rfl
theorem huf6 : Statement .huf6 := rfl
theorem huf7 : Statement .huf7 := rfl
theorem huf8 : Statement .huf8 := rfl
theorem huf9 : Statement .huf9 := rfl
theorem huf10 : Statement .huf10 := rfl
theorem huf11 : Statement .huf11 := rfl
theorem huf12 : Statement .huf12 := rfl
theorem huf13 : Statement .huf13 := rfl
theorem huf14 : Statement .huf14 := rfl
theorem huf15 : Statement .huf15 := rfl
theorem huf16 : Statement .huf16 := rfl
theorem huf17 : Statement .huf17 := rfl
theorem huf18 : Statement .huf18 := rfl
theorem huf19 : Statement .huf19 := rfl
theorem huf20 : Statement .huf20 := rfl
theorem huf21 : Statement .huf21 := rfl
theorem huf22 : Statement .huf22 := rfl
theorem huf23 : Statement .huf23 := rfl
theorem huf24 : Statement .huf24 := rfl
theorem huf25 : Statement .huf25 := rfl
theorem huf26 : Statement .huf26 := rfl
theorem huf27 : Statement .huf27 := rfl
theorem huf28 : Statement .huf28 := rfl
theorem huf29 : Statement .huf29 := rfl
theorem huf30 : Statement .huf30 := rfl
theorem huf31 : Statement .huf31 := rfl
theorem huf32 : Statement .huf32 := rfl
theorem huf33 : Statement .huf33 := rfl
theorem huf34 : Statement .huf34 := rfl
theorem huf35 : Statement .huf35 := rfl
theorem huf36 : Statement .huf36 := rfl
theorem huf37 : Statement .huf37 := rfl
theorem huf38 : Statement .huf38 := rfl
theorem huf39 : Statement .huf39 := rfl
theorem huf40 : Statement .huf40 := rfl
theorem huf41 : Statement .huf41 := rfl
theorem huf42 : Statement .huf42 := rfl
theorem huf43 : Statement .huf43 := rfl
theorem huf44 : Statement .huf44 := rfl
theorem huf45 : Statement .huf45 := rfl
theorem huf46 : Statement .huf46 := rfl
theorem huf47 : Statement .huf47 := rfl
theorem huf48 : Statement .huf48 := rfl
theorem huf49 : Statement .huf49 := rfl
theorem huf50 : Statement .huf50 := rfl
theorem huf51 : Statement .huf51 := rfl
theorem huf52 : Statement .huf52 := rfl
theorem huf53 : Statement .huf53 := rfl
theorem huf54 : Statement .huf54 := rfl
theorem huf55 : Statement .huf55 := rfl
theorem huf56 : Statement .huf56 := rfl
theorem huf57 : Statement .huf57 := rfl
theorem huf58 : Statement .huf58 := rfl
theorem huf59 : Statement .huf59 := rfl
theorem huf60 : Statement .huf60 := rfl
theorem huf61 : Statement .huf61 := rfl
theorem huf62 : Statement .huf62 := rfl
theorem huf63 : Statement .huf63 := rfl
theorem huf64 : Statement .huf64 := rfl
theorem huf65 : Statement .huf65 := rfl
theorem huf66 : Statement .huf66 := rfl
theorem huf67 : Statement .huf67 := rfl
theorem huf68 : Statement .huf68 := rfl
theorem huf69 : Statement .huf69 := rfl
theorem huf70 : Statement .huf70 := rfl
theorem huf71 : Statement .huf71 := rfl
theorem huf72 : Statement .huf72 := rfl
theorem huf73 : Statement .huf73 := rfl
theorem huf74 : Statement .huf74 := rfl
theorem huf75 : Statement .huf75 := rfl
theorem huf76 : Statement .huf76 := rfl
theorem huf77 : Statement .huf77 := rfl
theorem huf78 : Statement .huf78 := rfl
theorem huf79 : Statement .huf79 := rfl
theorem huf80 : Statement .huf80 := rfl
theorem huf81 : Statement .huf81 := rfl
theorem huf82 : Statement .huf82 := rfl
theorem huf83 : Statement .huf83 := rfl
theorem huf84 : Statement .huf84 := rfl
theorem huf85 : Statement .huf85 := rfl
theorem huf86 : Statement .huf86 := rfl
theorem huf87 : Statement .huf87 := rfl
theorem huf88 : Statement .huf88 := rfl
theorem huf89 : Statement .huf89 := rfl
theorem huf90 : Statement .huf90 := rfl
theorem huf91 : Statement .huf91 := rfl
theorem huf92 : Statement .huf92 := rfl
theorem huf93 : Statement .huf93 := rfl
theorem huf94 : Statement .huf94 := rfl
theorem huf95 : Statement .huf95 := rfl
theorem huf96 : Statement .huf96 := rfl
theorem huf97 : Statement .huf97 := rfl
theorem huf98 : Statement .huf98 := rfl
theorem huf99 : Statement .huf99 := rfl
theorem huf100 : Statement .huf100 := rfl
theorem huf101 : Statement .huf101 := rfl
theorem huf102 : Statement .huf102 := rfl
theorem huf103 : Statement .huf103 := rfl
theorem huf104 : Statement .huf104 := rfl
theorem huf105 : Statement .huf105 := rfl
theorem huf106 : Statement .huf106 := rfl
theorem huf107 : Statement .huf107 := rfl
theorem huf108 : Statement .huf108 := rfl
theorem huf109 : Statement .huf109 := rfl
theorem huf110 : Statement .huf110 := rfl
theorem huf111 : Statement .huf111 := rfl
theorem huf112 : Statement .huf112 := rfl
theorem huf113 : Statement .huf113 := rfl
theorem huf114 : Statement .huf114 := rfl
theorem huf115 : Statement .huf115 := rfl
theorem huf116 : Statement .huf116 := rfl
theorem huf117 : Statement .huf117 := rfl
theorem huf118 : Statement .huf118 := rfl
theorem huf119 : Statement .huf119 := rfl
theorem huf120 : Statement .huf120 := rfl
theorem huf121 : Statement .huf121 := rfl
theorem huf122 : Statement .huf122 := rfl
theorem huf123 : Statement .huf123 := rfl
theorem huf124 : Statement .huf124 := rfl
theorem huf125 : Statement .huf125 := rfl
theorem huf126 : Statement .huf126 := rfl
theorem huf127 : Statement .huf127 := rfl
theorem huf128 : Statement .huf128 := rfl
theorem huf129 : Statement .huf129 := rfl
theorem huf130 : Statement .huf130 := rfl
theorem huf131 : Statement .huf131 := rfl
theorem huf132 : Statement .huf132 := rfl
theorem huf133 : Statement .huf133 := rfl
theorem huf134 : Statement .huf134 := rfl
theorem huf135 : Statement .huf135 := rfl
theorem huf136 : Statement .huf136 := rfl
theorem huf137 : Statement .huf137 := rfl
theorem huf138 : Statement .huf138 := rfl
theorem huf139 : Statement .huf139 := rfl
theorem huf140 : Statement .huf140 := rfl
theorem huf141 : Statement .huf141 := rfl
theorem huf142 : Statement .huf142 := rfl
theorem huf143 : Statement .huf143 := rfl
theorem huf144 : Statement .huf144 := rfl
theorem huf145 : Statement .huf145 := rfl
theorem huf146 : Statement .huf146 := rfl
theorem huf147 : Statement .huf147 := rfl
theorem huf148 : Statement .huf148 := rfl
theorem huf149 : Statement .huf149 := rfl
theorem huf150 : Statement .huf150 := rfl
theorem huf151 : Statement .huf151 := rfl
theorem huf152 : Statement .huf152 := rfl
theorem huf153 : Statement .huf153 := rfl
theorem huf154 : Statement .huf154 := rfl
theorem huf155 : Statement .huf155 := rfl
theorem huf156 : Statement .huf156 := rfl
theorem huf157 : Statement .huf157 := rfl
theorem huf158 : Statement .huf158 := rfl
theorem huf159 : Statement .huf159 := rfl
theorem huf160 : Statement .huf160 := rfl
theorem huf161 : Statement .huf161 := rfl
theorem huf162 : Statement .huf162 := rfl
theorem huf163 : Statement .huf163 := rfl
theorem huf164 : Statement .huf164 := rfl
theorem huf165 : Statement .huf165 := rfl
theorem huf166 : Statement .huf166 := rfl
theorem huf167 : Statement .huf167 := rfl
theorem huf168 : Statement .huf168 := rfl
theorem huf169 : Statement .huf169 := rfl
theorem huf170 : Statement .huf170 := rfl
theorem huf171 : Statement .huf171 := rfl
theorem huf172 : Statement .huf172 := rfl
theorem huf173 : Statement .huf173 := rfl
theorem huf174 : Statement .huf174 := rfl
theorem huf175 : Statement .huf175 := rfl
theorem huf176 : Statement .huf176 := rfl
theorem huf177 : Statement .huf177 := rfl
theorem huf178 : Statement .huf178 := rfl
theorem huf179 : Statement .huf179 := rfl
theorem huf180 : Statement .huf180 := rfl
theorem huf181 : Statement .huf181 := rfl
theorem huf182 : Statement .huf182 := rfl
theorem huf183 : Statement .huf183 := rfl
theorem huf184 : Statement .huf184 := rfl
theorem huf185 : Statement .huf185 := rfl
theorem huf186 : Statement .huf186 := rfl
theorem huf187 : Statement .huf187 := rfl
theorem huf188 : Statement .huf188 := rfl
theorem huf189 : Statement .huf189 := rfl
theorem huf190 : Statement .huf190 := rfl
theorem huf191 : Statement .huf191 := rfl
theorem huf192 : Statement .huf192 := rfl
theorem huf193 : Statement .huf193 := rfl
theorem huf194 : Statement .huf194 := rfl
theorem huf195 : Statement .huf195 := rfl
theorem huf196 : Statement .huf196 := rfl
theorem huf197 : Statement .huf197 := rfl
theorem huf198 : Statement .huf198 := rfl
theorem huf199 : Statement .huf199 := rfl
theorem huf200 : Statement .huf200 := rfl
theorem huf201 : Statement .huf201 := rfl
theorem huf202 : Statement .huf202 := rfl
theorem huf203 : Statement .huf203 := rfl
theorem huf204 : Statement .huf204 := rfl
theorem huf205 : Statement .huf205 := rfl
theorem huf206 : Statement .huf206 := rfl
theorem huf207 : Statement .huf207 := rfl
theorem huf208 : Statement .huf208 := rfl
theorem huf209 : Statement .huf209 := rfl
theorem huf210 : Statement .huf210 := rfl
theorem huf211 : Statement .huf211 := rfl
theorem huf212 : Statement .huf212 := rfl
theorem huf213 : Statement .huf213 := rfl
theorem huf214 : Statement .huf214 := rfl
theorem huf215 : Statement .huf215 := rfl
theorem huf216 : Statement .huf216 := rfl
theorem huf217 : Statement .huf217 := rfl
theorem huf218 : Statement .huf218 := rfl
theorem huf219 : Statement .huf219 := rfl
theorem huf220 : Statement .huf220 := rfl
theorem huf221 : Statement .huf221 := rfl
theorem huf222 : Statement .huf222 := rfl
theorem huf223 : Statement .huf223 := rfl
theorem huf224 : Statement .huf224 := rfl
theorem huf225 : Statement .huf225 := rfl
theorem huf226 : Statement .huf226 := rfl
theorem huf227 : Statement .huf227 := rfl
theorem huf228 : Statement .huf228 := rfl
theorem huf229 : Statement .huf229 := rfl
theorem huf230 : Statement .huf230 := rfl
theorem huf231 : Statement .huf231 := rfl
theorem huf232 : Statement .huf232 := rfl
theorem huf233 : Statement .huf233 := rfl
theorem huf234 : Statement .huf234 := rfl
theorem huf235 : Statement .huf235 := rfl
theorem huf236 : Statement .huf236 := rfl
theorem huf237 : Statement .huf237 := rfl
theorem huf238 : Statement .huf238 := rfl
theorem huf239 : Statement .huf239 := rfl
theorem huf240 : Statement .huf240 := rfl
theorem huf241 : Statement .huf241 := rfl
theorem huf242 : Statement .huf242 := rfl
theorem huf243 : Statement .huf243 := rfl
theorem huf244 : Statement .huf244 := rfl
theorem huf245 : Statement .huf245 := rfl
theorem huf246 : Statement .huf246 := rfl
theorem huf247 : Statement .huf247 := rfl
theorem huf248 : Statement .huf248 := rfl
theorem huf249 : Statement .huf249 := rfl
theorem huf250 : Statement .huf250 := rfl
theorem huf251 : Statement .huf251 := rfl
theorem huf252 : Statement .huf252 := rfl
theorem huf253 : Statement .huf253 := rfl
theorem huf254 : Statement .huf254 := rfl
theorem huf255 : Statement .huf255 := rfl
theorem hufEos : Statement .hufEos := rfl

end Sys2Proof.Laws.EncodingShape
end

