-- ==== Sys2Proof/Tests/Slice0.lean ====
section
/-!
SUPPORT. Tests. Expected results come from the spec: the vectors of 95_test_vectors.md by their ids, words written out from
30_encoding.md R91 and R99. Then, for each statement with hypotheses, a witness: a concrete state and operands that meet
them, at the boundaries of its clauses.
-/

namespace Sys2Proof.Tests

open Sys2Proof.Machine

/-! ### States and results -/

/-- After a reset that presents `input`, with ARG written. -/
def fresh (input : List Byte) (arg : Word64 := 0) : State := { State.resetWith input [] with arg := arg }

/-- The same after BROPEN of `len` bytes. -/
def inContext (input : List Byte) (len : Nat) : State := (fresh input).openView len

/-- One field of the next state. -/
def seen {α : Type} (o : Host.Outcome State Fault Refusal) (f : State → α) : Option α :=
  match o with
  | .next t => some (f t)
  | .fault _ => none
  | .refused _ => none

/-- The states of these tests meet the invariants: a closed core, or a context with the tail bits given. -/
theorem inv_of_fields {s : State} {bits : List Bool} (view : s.ViewOk)
    (closed : s.isOpen = false → s.lim = s.inp.len ∧ s.ReaderCleared)
    (mask : s.mask = 0 ∨ ∃ k, k < 8 ∧ s.mask = 1#8 <<< k) (cur : s.mask = 0 → s.cur = 0)
    (pulled : s.mask ≠ 0 → 1 ≤ s.pos.toNat ∧ s.inp.read (s.pos.toNat - 1) = some s.cur) (tail : s.TailBits bits)
    (err : s.err = false) (cause : s.cause = .none) (kind : s.rKind = .none) (val : s.rVal = 0) (cnt : s.rCnt = 0) :
    s.Inv where
  view := view
  closed := closed
  maskOneHot := mask
  curCleared := cur
  curPulled := pulled
  tail := ⟨bits, tail⟩
  causeErr := by simp [err, cause]
  kindErr := by simp [err, kind]
  errEmpty := by simp [err]
  zeroKinds := fun _ => ⟨val, cnt⟩
  symbolKind := by simp [kind]

theorem fresh_inv (input : List Byte) (arg : Word64) (h : input.length < 2 ^ 64) : (fresh input arg).Inv :=
  inv_of_fields (bits := []) ⟨Memory.ofBytes_wf input h, Nat.zero_le _, Nat.le_refl _⟩
    (fun _ => ⟨rfl, rfl, rfl, rfl, rfl, rfl⟩) (.inl rfl) (fun _ => rfl) (fun hm => absurd rfl hm)
    ⟨rfl, rfl, rfl⟩ rfl rfl rfl rfl rfl

theorem inContext_tail (input : List Byte) (len : Nat) : (inContext input len).TailBits [] := ⟨rfl, rfl, rfl⟩

theorem inContext_inv (input : List Byte) (len : Nat) (h : input.length < 2 ^ 64) (hl : len ≤ input.length) :
    (inContext input len).Inv := by
  refine inv_of_fields (bits := []) ⟨Memory.ofBytes_wf input h, Nat.zero_le _, ?_⟩ (fun ho => by cases ho) (.inl rfl)
    (fun _ => rfl) (fun hm => absurd rfl hm) ⟨rfl, rfl, rfl⟩ rfl rfl rfl rfl rfl
  simp [inContext, fresh, State.openView, State.resetWith, State.reset, State.clearReader, Memory.ofBytes]
  omega

/-! ### Well-formedness -/

theorem test_decint_16_is_ill_formed : (Instr.decint 16).wellFormed = false := by decide
theorem test_decint_15_is_well_formed : (Instr.decint 15).wellFormed = true := by decide

/-! ### Decoding: words written out from the spec's encodings -/

theorem test_command_words_decode :
    decode (.command 0b00010000#8) = .ok (.decint 0) ∧ decode (.command 0b00010001#8) = .ok (.decint 1) ∧
    decode (.command 0b00011000#8) = .ok (.decint 8) ∧ decode (.command 0b00011111#8) = .ok (.decint 15) ∧
    decode (.command 0b00100000#8) = .ok .decstr ∧ decode (.command 0b00110000#8) = .ok .dechuf ∧
    decode (.command 0b01000000#8) = .ok .bropen ∧ decode (.command 0b01010000#8) = .ok .rdsym ∧
    decode (.command 0b01100000#8) = .ok .brclose := by decide

theorem test_reserved_words_are_named :
    decode (.command 0x00#8) = .error .reservedOp ∧ decode (.command 0xf0#8) = .error .reservedOp ∧
    decode (.command 0x2f#8) = .error .reservedOperand ∧ decode (.command 0x61#8) = .error .reservedOperand ∧
    decode (.code [true, true, true, true]) = .error .codeCutShort := by decide

theorem test_table_words_of_commands_decode :
    decodeTableWord 8 0x12 = some (.decint 2) ∧ decodeTableWord 8 0x60 = some .brclose ∧
    decodeTableWord 8 0x00 = some .huf48 := by decide

/-- The windows of HUF_0 to HUF_42, each the code of 30_encoding.md R99 left aligned in 32 bits and padded with zeros. -/
def windows0 : List (Nat × Instr) := [
  (0xffc00000, .huf0), (0xffffb000, .huf1), (0xfffffe20, .huf2), (0xfffffe30, .huf3), (0xfffffe40, .huf4),
  (0xfffffe50, .huf5), (0xfffffe60, .huf6), (0xfffffe70, .huf7), (0xfffffe80, .huf8), (0xffffea00, .huf9),
  (0xfffffff0, .huf10), (0xfffffe90, .huf11), (0xfffffea0, .huf12), (0xfffffff4, .huf13), (0xfffffeb0, .huf14),
  (0xfffffec0, .huf15), (0xfffffed0, .huf16), (0xfffffee0, .huf17), (0xfffffef0, .huf18), (0xffffff00, .huf19),
  (0xffffff10, .huf20), (0xffffff20, .huf21), (0xfffffff8, .huf22), (0xffffff30, .huf23), (0xffffff40, .huf24),
  (0xffffff50, .huf25), (0xffffff60, .huf26), (0xffffff70, .huf27), (0xffffff80, .huf28), (0xffffff90, .huf29),
  (0xffffffa0, .huf30), (0xffffffb0, .huf31), (0x50000000, .huf32), (0xfe000000, .huf33), (0xfe400000, .huf34),
  (0xffa00000, .huf35), (0xffc80000, .huf36), (0x54000000, .huf37), (0xf8000000, .huf38), (0xff400000, .huf39),
  (0xfe800000, .huf40), (0xfec00000, .huf41), (0xf9000000, .huf42)]

theorem test_windows0_decode : windows0.all (fun p => decodeTableWord 32 p.1 = some p.2) = true := by decide +kernel

/-- The windows of HUF_43 to HUF_85, each the code of 30_encoding.md R99 left aligned in 32 bits and padded with zeros. -/
def windows1 : List (Nat × Instr) := [
  (0xff600000, .huf43), (0xfa000000, .huf44), (0x58000000, .huf45), (0x5c000000, .huf46), (0x60000000, .huf47),
  (0x00000000, .huf48), (0x08000000, .huf49), (0x10000000, .huf50), (0x64000000, .huf51), (0x68000000, .huf52),
  (0x6c000000, .huf53), (0x70000000, .huf54), (0x74000000, .huf55), (0x78000000, .huf56), (0x7c000000, .huf57),
  (0xb8000000, .huf58), (0xfb000000, .huf59), (0xfff80000, .huf60), (0x80000000, .huf61), (0xffb00000, .huf62),
  (0xff000000, .huf63), (0xffd00000, .huf64), (0x84000000, .huf65), (0xba000000, .huf66), (0xbc000000, .huf67),
  (0xbe000000, .huf68), (0xc0000000, .huf69), (0xc2000000, .huf70), (0xc4000000, .huf71), (0xc6000000, .huf72),
  (0xc8000000, .huf73), (0xca000000, .huf74), (0xcc000000, .huf75), (0xce000000, .huf76), (0xd0000000, .huf77),
  (0xd2000000, .huf78), (0xd4000000, .huf79), (0xd6000000, .huf80), (0xd8000000, .huf81), (0xda000000, .huf82),
  (0xdc000000, .huf83), (0xde000000, .huf84), (0xe0000000, .huf85)]

theorem test_windows1_decode : windows1.all (fun p => decodeTableWord 32 p.1 = some p.2) = true := by decide +kernel

/-- The windows of HUF_86 to HUF_128, each the code of 30_encoding.md R99 left aligned in 32 bits and padded with zeros. -/
def windows2 : List (Nat × Instr) := [
  (0xe2000000, .huf86), (0xe4000000, .huf87), (0xfc000000, .huf88), (0xe6000000, .huf89), (0xfd000000, .huf90),
  (0xffd80000, .huf91), (0xfffe0000, .huf92), (0xffe00000, .huf93), (0xfff00000, .huf94), (0x88000000, .huf95),
  (0xfffa0000, .huf96), (0x18000000, .huf97), (0x8c000000, .huf98), (0x20000000, .huf99),
  (0x90000000, .huf100), (0x28000000, .huf101), (0x94000000, .huf102), (0x98000000, .huf103),
  (0x9c000000, .huf104), (0x30000000, .huf105), (0xe8000000, .huf106), (0xea000000, .huf107),
  (0xa0000000, .huf108), (0xa4000000, .huf109), (0xa8000000, .huf110), (0x38000000, .huf111),
  (0xac000000, .huf112), (0xec000000, .huf113), (0xb0000000, .huf114), (0x40000000, .huf115),
  (0x48000000, .huf116), (0xb4000000, .huf117), (0xee000000, .huf118), (0xf0000000, .huf119),
  (0xf2000000, .huf120), (0xf4000000, .huf121), (0xf6000000, .huf122), (0xfffc0000, .huf123),
  (0xff800000, .huf124), (0xfff40000, .huf125), (0xffe80000, .huf126), (0xffffffc0, .huf127),
  (0xfffe6000, .huf128)]

theorem test_windows2_decode : windows2.all (fun p => decodeTableWord 32 p.1 = some p.2) = true := by decide +kernel

/-- The windows of HUF_129 to HUF_171, each the code of 30_encoding.md R99 left aligned in 32 bits and padded with zeros. -/
def windows3 : List (Nat × Instr) := [
  (0xffff4800, .huf129), (0xfffe7000, .huf130), (0xfffe8000, .huf131), (0xffff4c00, .huf132),
  (0xffff5000, .huf133), (0xffff5400, .huf134), (0xffffb200, .huf135), (0xffff5800, .huf136),
  (0xffffb400, .huf137), (0xffffb600, .huf138), (0xffffb800, .huf139), (0xffffba00, .huf140),
  (0xffffbc00, .huf141), (0xffffeb00, .huf142), (0xffffbe00, .huf143), (0xffffec00, .huf144),
  (0xffffed00, .huf145), (0xffff5c00, .huf146), (0xffffc000, .huf147), (0xffffee00, .huf148),
  (0xffffc200, .huf149), (0xffffc400, .huf150), (0xffffc600, .huf151), (0xffffc800, .huf152),
  (0xfffee000, .huf153), (0xffff6000, .huf154), (0xffffca00, .huf155), (0xffff6400, .huf156),
  (0xffffcc00, .huf157), (0xffffce00, .huf158), (0xffffef00, .huf159), (0xffff6800, .huf160),
  (0xfffee800, .huf161), (0xfffe9000, .huf162), (0xffff6c00, .huf163), (0xffff7000, .huf164),
  (0xffffd000, .huf165), (0xffffd200, .huf166), (0xfffef000, .huf167), (0xffffd400, .huf168),
  (0xffff7400, .huf169), (0xffff7800, .huf170), (0xfffff000, .huf171)]

theorem test_windows3_decode : windows3.all (fun p => decodeTableWord 32 p.1 = some p.2) = true := by decide +kernel

/-- The windows of HUF_172 to HUF_214, each the code of 30_encoding.md R99 left aligned in 32 bits and padded with zeros. -/
def windows4 : List (Nat × Instr) := [
  (0xfffef800, .huf172), (0xffff7c00, .huf173), (0xffffd600, .huf174), (0xffffd800, .huf175),
  (0xffff0000, .huf176), (0xffff0800, .huf177), (0xffff8000, .huf178), (0xffff1000, .huf179),
  (0xffffda00, .huf180), (0xffff8400, .huf181), (0xffffdc00, .huf182), (0xffffde00, .huf183),
  (0xfffea000, .huf184), (0xffff8800, .huf185), (0xffff8c00, .huf186), (0xffff9000, .huf187),
  (0xffffe000, .huf188), (0xffff9400, .huf189), (0xffff9800, .huf190), (0xffffe200, .huf191),
  (0xfffff800, .huf192), (0xfffff840, .huf193), (0xfffeb000, .huf194), (0xfffe2000, .huf195),
  (0xffff9c00, .huf196), (0xffffe400, .huf197), (0xffffa000, .huf198), (0xfffff600, .huf199),
  (0xfffff880, .huf200), (0xfffff8c0, .huf201), (0xfffff900, .huf202), (0xfffffbc0, .huf203),
  (0xfffffbe0, .huf204), (0xfffff940, .huf205), (0xfffff100, .huf206), (0xfffff680, .huf207),
  (0xfffe4000, .huf208), (0xffff1800, .huf209), (0xfffff980, .huf210), (0xfffffc00, .huf211),
  (0xfffffc20, .huf212), (0xfffff9c0, .huf213), (0xfffffc40, .huf214)]

theorem test_windows4_decode : windows4.all (fun p => decodeTableWord 32 p.1 = some p.2) = true := by decide +kernel

/-- The windows of HUF_215 to HUF_EOS, each the code of 30_encoding.md R99 left aligned in 32 bits and padded with zeros. -/
def windows5 : List (Nat × Instr) := [
  (0xfffff200, .huf215), (0xffff2000, .huf216), (0xffff2800, .huf217), (0xfffffa00, .huf218),
  (0xfffffa40, .huf219), (0xffffffd0, .huf220), (0xfffffc60, .huf221), (0xfffffc80, .huf222),
  (0xfffffca0, .huf223), (0xfffec000, .huf224), (0xfffff300, .huf225), (0xfffed000, .huf226),
  (0xffff3000, .huf227), (0xffffa400, .huf228), (0xffff3800, .huf229), (0xffff4000, .huf230),
  (0xffffe600, .huf231), (0xffffa800, .huf232), (0xffffac00, .huf233), (0xfffff700, .huf234),
  (0xfffff780, .huf235), (0xfffff400, .huf236), (0xfffff500, .huf237), (0xfffffa80, .huf238),
  (0xffffe800, .huf239), (0xfffffac0, .huf240), (0xfffffcc0, .huf241), (0xfffffb00, .huf242),
  (0xfffffb40, .huf243), (0xfffffce0, .huf244), (0xfffffd00, .huf245), (0xfffffd20, .huf246),
  (0xfffffd40, .huf247), (0xfffffd60, .huf248), (0xffffffe0, .huf249), (0xfffffd80, .huf250),
  (0xfffffda0, .huf251), (0xfffffdc0, .huf252), (0xfffffde0, .huf253), (0xfffffe00, .huf254),
  (0xfffffb80, .huf255), (0xfffffffc, .hufEos)]

theorem test_windows5_decode : windows5.all (fun p => decodeTableWord 32 p.1 = some p.2) = true := by decide +kernel

theorem test_encode :
    encode (.decint 5) = .command 0x15#8 ∧ encode .brclose = .command 0x60#8 ∧
    encode .huf46 = .code [false, true, false, true, true, true] := by decide

/-- V-S2 and V-S9b. -/
theorem test_encodeString :
    encodeString [0x63, 0x75, 0x73, 0x74, 0x6f, 0x6d, 0x2d, 0x6b, 0x65, 0x79] =
      [0x25, 0xa8, 0x49, 0xe9, 0x5b, 0xa9, 0x7d, 0x7f] ∧
    encodeString [0x0a] = [0xff, 0xff, 0xff, 0xf3] := by decide

/-- E2 and V-I28. -/
theorem test_encodeInteger :
    encodeInteger 1337 5 0 = [0x1f, 0x9a, 0x0a] ∧
    encodeInteger (2 ^ 64 - 1) 8 0 = [0xff, 0x80, 0xfe, 0xff, 0xff, 0xff, 0xff, 0xff, 0xff, 0xff, 0x01] := by decide

/-! ### The tree -/

/-- V-T1, V-T9, V-T14. -/
theorem test_tree_entries :
    nextChild root false = .node 66 ∧ nextChild root true = .node 1 ∧
    treeEntry 12 = ⟨0x200, 0x224⟩ ∧ nextChild 59 true = .leaf 256 := by decide

/-- V-T10. -/
theorem test_walk_of_symbol_255 :
    walkFrom root (List.replicate 21 true ++ [false, true, true, true]) = some (.node 226) ∧
    nextChild 226 false = .leaf 255 := by decide

/-! ### One step of each instruction -/

/-- E2. -/
theorem test_decint_1337 :
    seen (exec (.decint 5) (fresh [0x1f, 0x9a, 0x0a])) (fun t => (t.rKind, t.rVal, t.rCnt, t.pos)) =
      some (.value, 1337, 3, 3) := by decide

/-- V-I31. -/
theorem test_decint_overflow :
    seen (exec (.decint 5) (fresh [0x1f, 0x80, 0x80, 0x80, 0x80, 0x80, 0x80, 0x80, 0x80, 0x80, 0x02]))
      (fun t => (t.cause, t.pos)) = some (.intOverflow, 11) := by decide

/-- E5. -/
theorem test_decstr_www_example_com :
    seen (exec .decstr (fresh [0x8c, 0xf1, 0xe3, 0xc2, 0xe5, 0xf2, 0x3a, 0x6b, 0xa0, 0xab, 0x90, 0xf4, 0xff]))
      (fun t => (t.out, t.rVal, t.rCnt, t.h)) =
      some ([0x77, 0x77, 0x77, 0x2e, 0x65, 0x78, 0x61, 0x6d, 0x70, 0x6c, 0x65, 0x2e, 0x63, 0x6f, 0x6d], 12, 13, true) := by
  decide

/-- V-S43: the flag is latched although the length fails. -/
theorem test_decstr_latches_h :
    seen (exec .decstr (fresh [0xff])) (fun t => (t.h, t.cause, t.pos)) = some (true, .intTruncated, 1) := by decide

/-- V-S14: the bound is reached exactly. -/
theorem test_dechuf_reaches_the_bound :
    seen (exec .dechuf (fresh [0, 0, 0, 0, 0] 5)) (fun t => (t.out, t.rKind, t.isOpen)) =
      some (List.replicate 8 0x30#8, .string, false) := by decide

/-- V-S24: eleven one-bits after a symbol. -/
theorem test_dechuf_bad_tail :
    seen (exec .dechuf (fresh [0x07, 0xff] 2)) (fun t => (t.cause, t.node, t.tail, t.ones, t.pos)) =
      some (.hufBadTail, 13, 8, true, 2) := by decide

/-- V-B5. -/
theorem test_bropen :
    seen (exec .bropen (fresh [0xf1, 0xe3, 0x2a] 2)) (fun t => (t.rKind, t.pos, t.lim, t.isOpen)) =
      some (.none, 0, 2, true) := by decide

/-- V-B6. -/
theorem test_bropen_too_long :
    seen (exec .bropen (fresh [0xf1, 0xe3] 3)) (fun t => (t.cause, t.pos, t.lim, t.isOpen)) =
      some (.strTruncated, 0, 2, false) := by decide

/-- V-B12. -/
theorem test_rdsym_symbol_zero :
    seen (exec .rdsym (inContext [0xff, 0xc7] 2)) (fun t => (t.rKind, t.rVal, t.pos, t.mask)) =
      some (.symbol, 0, 2, 0x04) := by decide

/-- V-B16. -/
theorem test_rdsym_bad_tail :
    seen (exec .rdsym (inContext [0xff] 1)) (fun t => (t.cause, t.pos, t.node, t.tail, t.isOpen)) =
      some (.hufBadTail, 1, 8, 8, true) := by decide

/-- V-B17, from the state after its first symbol. -/
theorem test_brclose :
    seen (exec .brclose { inContext [0xf8, 0x07, 0x2a] 2 with pos := 1 }) (fun t => (t.isOpen, t.lim, t.pos)) =
      some (false, 3, 1) := by decide

/-- V-B3: a code that ends on bit 0 of a byte. -/
theorem test_code_word_38 :
    seen (exec .huf38 (inContext [0xf8, 0x07] 2)) (fun t => (t.rKind, t.rVal, t.pos, t.mask, t.cur)) =
      some (.symbol, 38, 1, 0, 0) := by decide

/-- V-B4. -/
theorem test_code_word_eos :
    seen (exec .hufEos (inContext [0xff, 0xff, 0xff, 0xff] 4)) (fun t => (t.cause, t.pos, t.mask, t.cur, t.node)) =
      some (.hufEos, 4, 0x02, 0xff, 0) := by decide

/-- V-X3, V-X4, V-X7. -/
theorem test_refusals :
    seen (runCommand 0x21#8 (fresh [0x0a])) (fun t => (t.cause, t.pos)) = some (.illegalCommand, 0) ∧
    seen (runCommand 0x15#8 ((fresh [0x1f]).raiseError .intTruncated)) (fun t => (t.cause, t.rKind)) =
      some (.intTruncated, .error) ∧
    seen (runCommand 0x10#8 (inContext [0x07, 0x2a] 1)) (fun t => (t.cause, t.lim)) = some (.illegalCommand, 1) := by
  decide

/-- P4: STATUS is 0x2EB after DECSTR on `81 ff 2a`. -/
theorem test_status :
    seen (exec .decstr (fresh [0x81, 0xff, 0x2a])) (fun t => hostRead t (.readOnly .status)) = some 0x2eb#64 := by decide

/-- P6, its first two lines written as a test program (R104). -/
theorem test_program_lines :
    (fresh [0x07, 0x2a]).withProgram [.bropen 1, .decint 5] =
      { fresh [0x07, 0x2a] with hostq := [.writeArg 1, .writeCmd 0x40, .writeCmd 0x15] } := by decide

/-- A table word placed after reset is what the next step runs. -/
theorem test_fetch_word_runs :
    seen (step (State.reset.withFetchWord 8 0x40)) (fun t => (t.isOpen, t.rKind)) = some (true, .none) ∧
    seen (step (State.reset.withFetchWord 32 0x18000000)) (fun t => (t.rKind, t.rVal)) = some (.symbol, 97) := by decide

/-- A write of the input space keeps the canonical form: writing 0 removes the cell. -/
theorem test_memory_write :
    ((Memory.ofBytes [5, 0, 7]).write 2 0).write 1 9 = { len := 3, cells := [(0, 5), (1, 9)] } := by decide

/-! ### Witnesses: encoding and the tree -/

theorem witness_DecodeInvertsEncode :
    (Instr.decint 0).wellFormed = true ∧ (Instr.decint 15).wellFormed = true ∧ Instr.hufEos.wellFormed = true := by decide

theorem witness_CommandWordsHaveOneMeaning :
    decode (.command 0x1f#8) = .ok (.decint 15) ∧ decode (.command 0x60#8) = .ok .brclose := by decide

theorem witness_CodeIsPrefixFreeAndComplete :
    Config.maxLen ≤ (List.replicate 30 true).length ∧ (⟨.hufEos, 256, 30, 0x3fffffff⟩ : HufRow) ∈ hufRows ∧
    (⟨.huf48, 48, 5, 0x0⟩ : HufRow) ∈ hufRows ∧ 256 ≤ Config.eos := by decide

theorem witness_WindowMatchesExactlyOneRow : 0 < 2 ^ 32 ∧ 4294967295 < 2 ^ 32 := by decide

theorem witness_TreeIsTheTrieOfTheCodeTable :
    (⟨.huf0, 0, 13, 0x1ff8⟩ : HufRow) ∈ hufRows ∧
    walkFrom root [false, false, false, true, true] = some (.leaf 97) := by decide

theorem witness_AllOnesPathEndsInEos :
    allOnesPath[0]? = some 0 ∧ allOnesPath[7]? = some 7 ∧ allOnesPath[29]? = some 59 := by decide

theorem witness_LeafDepthsAreFiveToThirty :
    walkFrom root [false, false, false, false, false] = some (.leaf 48) ∧
    walkFrom root (List.replicate 30 true) = some (.leaf 256) ∧
    walkFrom root [false, true, false, true, false, false] = some (.leaf 32) := by decide

theorem witness_RomImagePassesItsValidation :
    nextChild 12 false = .leaf 0 ∧ nextChild 59 true = .leaf 256 ∧ nextChild root true = .node 1 ∧
    nextChild 254 true = .leaf 251 := by decide

/-! ### Witnesses: steps and the host -/

theorem witness_StepRunsTheDecodedCommand :
    { fresh [0x0a] with hostq := [.writeCmd 0x15#8] }.hostq = .writeCmd 0x15#8 :: [] ∧
    decode (.command 0x15#8) = .ok (.decint 5) := by decide

theorem witness_StepRunsTheDecodedCodeWord :
    ∃ s : State, s.Inv ∧ s.err = false ∧ s.isOpen = true ∧ s.TailBits [] ∧
      s.hostq = .writeCmd 0x50#8 :: [] ∧
      decodeCode s.viewBits = some (⟨.huf97, 97, 5, 0x3⟩, [true, true, true]) :=
  ⟨{ inContext [0x1f] 1 with hostq := [.writeCmd 0x50#8] },
    inv_of_fields (bits := []) ⟨by decide, by decide, by decide⟩ (fun h => by cases h) (.inl rfl) (fun _ => rfl)
      (fun h => absurd rfl h) ⟨rfl, rfl, rfl⟩ rfl rfl rfl rfl rfl,
    rfl, rfl, ⟨rfl, rfl, rfl⟩, rfl, by decide⟩

theorem witness_StepCarriesOutTheHostsOldestAction :
    (fresh [0x0a]).hostq = [] ∧ { fresh [0x0a] with hostq := [.writeArg 7] }.hostq = .writeArg 7 :: [] := by decide

theorem witness_HostWritesChangeArgOnly :
    { fresh [0x0a] with hostq := [.writeArg 7] }.hostq = .writeArg 7 :: [] ∧
    { fresh [0x0a] with hostq := [.writeReadOnly .pos 7] }.hostq = .writeReadOnly .pos 7 :: [] := by decide

theorem witness_ResetLeavesTheResetValues :
    [1#8, 0#8].length < 2 ^ 64 ∧ ([] : List Byte).length < 2 ^ 64 := by decide

/-! ### Witnesses: the error -/

theorem witness_StickyErrorRefusesEveryCommand :
    ((fresh [0x0a]).raiseError .hufEos).err = true ∧
    ((fresh [0x0a]).err = false ∧ decode (.command 0x15#8) = .ok (.decint 5)) := by decide

theorem witness_EveryRaiseMakesTheErrorEntry :
    (fresh [0x0a]).err = false ∧ seen (exec .brclose (fresh [0x0a])) (fun t => t.err) = some true := by decide

theorem witness_OnlyResetClearsTheError :
    ((fresh [0x0a]).raiseError .hufEos).err = true ∧
    seen (serve (.writeCmd 0x15#8) ((fresh [0x0a]).raiseError .hufEos)) (fun t => (t.err, t.cause)) =
      some (true, .hufEos) ∧
    seen (serve (.reset [0x0a]) ((fresh [0x0a]).raiseError .hufEos)) (fun t => (t.err, t.cause)) =
      some (false, .none) := by decide

theorem witness_CausesAreThoseOfTheCommand :
    (fresh [0x81, 0xff]).Inv ∧ (fresh [0x81, 0xff]).err = false ∧
    seen (exec .decstr (fresh [0x81, 0xff])) (fun t => (t.err, t.cause)) = some (true, .hufBadTail) ∧
    seen (exec .decstr (fresh [0x84, 0xff, 0xff, 0xff, 0xff])) (fun t => (t.err, t.cause)) = some (true, .hufEos) :=
  ⟨fresh_inv _ _ (by decide), rfl, by decide, by decide⟩

theorem witness_HufBoundIsUnreachable :
    (fresh [0, 0, 0, 0, 0] 5).Inv ∧ (fresh [0, 0, 0, 0, 0] 5).err = false ∧
    seen (exec .dechuf (fresh [0, 0, 0, 0, 0] 5)) (fun t => t.cause) = some .none :=
  ⟨fresh_inv _ _ (by decide), rfl, by decide⟩

theorem witness_ReservedWordsRaiseIllegalCommand :
    opField 0x0f#8 = 0 ∧ opField 0x70#8 = 7 ∧ opField 0xff#8 = 15 ∧ (opField 0x21#8 = 2 ∧ nField 0x21#8 = 1) ∧
    (opField 0x6f#8 = 6 ∧ nField 0x6f#8 = 15) ∧ (opField 0x10#8 = 1 ∧ nField 0x10#8 = 0) ∧
    (opField 0x19#8 = 1 ∧ nField 0x19#8 = 9) ∧ (fresh [0x0a]).isOpen = false ∧ decode (.command 0x1f#8) = .ok (.decint 15) ∧
    decode (.command 0x60#8) = .ok .brclose ∧ (fresh [0x0a]).err = false := by decide

theorem witness_WrongContextIsIllegalCommand :
    ((inContext [0x07, 0x2a] 1).err = false ∧ (inContext [0x07, 0x2a] 1).isOpen = true) ∧
    ((fresh [0x0a]).err = false ∧ (fresh [0x0a]).isOpen = false ∧ (⟨.huf38, 38, 8, 0xf8⟩ : HufRow) ∈ hufRows) := by
  decide

/-! ### Witnesses: BROPEN and BRCLOSE -/

theorem witness_BropenOpensTheView :
    (let s := fresh [0xf1, 0xe3] 2; s.err = false ∧ s.isOpen = false ∧ s.arg.toNat ≤ s.lim.toNat - s.pos.toNat) ∧
    (let s := fresh [] 0; s.err = false ∧ s.isOpen = false ∧ s.arg.toNat ≤ s.lim.toNat - s.pos.toNat) ∧
    (let s := fresh [0xf1, 0xe3] 3; s.err = false ∧ s.isOpen = false ∧ s.lim.toNat - s.pos.toNat < s.arg.toNat) ∧
    (let s := inContext [0x07, 0x2a] 1; s.err = false ∧ s.isOpen = true) := by decide

theorem witness_BrcloseDiscardsTheReader :
    (let s := inContext [0x07, 0x2a] 1; s.err = false ∧ s.isOpen = true) ∧
    (let s := fresh [0x0a]; s.err = false ∧ s.isOpen = false) := by decide

/-! ### Witnesses: the micro-step, RDSYM and the code words -/

/-- V-B1 after its first symbol: three bits of the byte 07 are left. -/
def afterZero : State := { inContext [0x07] 1 with pos := 1, cur := 0x07, mask := 0x04 }

theorem afterZero_inv : afterZero.Inv :=
  inv_of_fields (bits := []) ⟨by decide, by decide, by decide⟩ (fun h => by cases h) (.inr ⟨2, by decide, by decide⟩)
    (fun h => by cases h) (fun _ => ⟨by decide, by decide⟩) ⟨rfl, rfl, rfl⟩ rfl rfl rfl rfl rfl

/-- Inside a context at the end of a view of one byte, after `k` one-bits of tail. -/
def afterOnes (k : Nat) : State :=
  { inContext [0xff] 1 with pos := 1, node := BitVec.ofNat 8 k, tail := BitVec.ofNat 4 (min k 8) }

theorem witness_MicroStepTakesTheNextBit :
    ((inContext [] 0).Inv ∧ (inContext [] 0).viewBits = []) ∧
    (afterZero.Inv ∧ afterZero.viewBits = true :: [true, true]) ∧
    ((inContext [0x80] 1).Inv ∧
      (inContext [0x80] 1).viewBits = true :: [false, false, false, false, false, false, false]) :=
  ⟨⟨inContext_inv _ _ (by decide) (by decide), by decide⟩, ⟨afterZero_inv, by decide⟩,
    inContext_inv _ _ (by decide) (by decide), by decide⟩

theorem witness_RdsymReadsTheNextSymbol :
    (∃ s : State, s.Inv ∧ s.err = false ∧ s.isOpen = true ∧ s.TailBits [] ∧
      s.viewBits = hufCode (97#8).toNat ++ [true, true, true]) ∧
    ∃ s : State, s.Inv ∧ s.err = false ∧ s.isOpen = true ∧ s.TailBits [] ∧
      s.viewBits = hufCode (10#8).toNat ++ [true, true] :=
  ⟨⟨inContext [0x1f] 1, inContext_inv _ _ (by decide) (by decide), rfl, rfl, inContext_tail _ _, by decide⟩,
    ⟨inContext [0xff, 0xff, 0xff, 0xf3] 4, inContext_inv _ _ (by decide) (by decide), rfl, rfl, inContext_tail _ _,
      by decide⟩⟩

theorem afterOnes_inv (k : Nat) (h : (afterOnes k).TailBits (List.replicate k true)) : (afterOnes k).Inv :=
  inv_of_fields (s := afterOnes k) ⟨(by decide : (fresh [0xff]).inp.wf = true), Nat.le_refl 1, Nat.le_refl 1⟩ (fun h => by cases h) (.inl rfl)
    (fun _ => rfl) (fun h => absurd rfl h) h rfl rfl rfl rfl rfl

theorem witness_RdsymReportsACleanEnd :
    (∃ s : State, s.Inv ∧ s.err = false ∧ s.isOpen = true ∧ s.TailBits [] ∧
      [] ++ s.viewBits = List.replicate 0 true) ∧
    (∃ s : State, s.Inv ∧ s.err = false ∧ s.isOpen = true ∧ s.TailBits (List.replicate 7 true) ∧
      List.replicate 7 true ++ s.viewBits = List.replicate 7 true) ∧
    ∃ s : State, s.Inv ∧ s.err = false ∧ s.isOpen = true ∧ s.TailBits [] ∧
      [] ++ s.viewBits = List.replicate 3 true :=
  ⟨⟨inContext [] 0, inContext_inv _ _ (by decide) (by decide), rfl, rfl, inContext_tail _ _, by decide⟩,
    ⟨afterOnes 7, afterOnes_inv 7 ⟨by decide, rfl, rfl⟩, rfl, rfl, ⟨by decide, rfl, rfl⟩, by decide⟩,
    ⟨afterZero, afterZero_inv, rfl, rfl, ⟨rfl, rfl, rfl⟩, by decide⟩⟩

theorem not_ones {l : List Bool} (h : ¬ (l.length ≤ 7 ∧ l.all id = true)) :
    ∀ k, k ≤ 7 → l ≠ List.replicate k true := by
  intro k hk he
  subst he
  simp [hk] at h

theorem witness_EndOfTheViewIsCleanOrBadTail :
    ((afterOnes 7).mask = 0 ∧ (afterOnes 7).pos = (afterOnes 7).lim ∧
      (afterOnes 7).TailBits (List.replicate 7 true)) ∧
    ((afterOnes 8).mask = 0 ∧ (afterOnes 8).pos = (afterOnes 8).lim ∧
      (afterOnes 8).TailBits (List.replicate 8 true) ∧
      ∀ k, k ≤ 7 → List.replicate 8 true ≠ List.replicate k true) :=
  ⟨⟨rfl, rfl, ⟨by decide, rfl, rfl⟩⟩, rfl, rfl, ⟨by decide, rfl, rfl⟩, not_ones (by decide)⟩

theorem witness_RdsymRejectsABadTail :
    (∃ s : State, s.Inv ∧ s.err = false ∧ s.isOpen = true ∧ s.TailBits [] ∧
      walkFrom root ([] ++ s.viewBits) = some (.node 8) ∧
      ∀ k, k ≤ 7 → [] ++ s.viewBits ≠ List.replicate k true) ∧
    ∃ s : State, s.Inv ∧ s.err = false ∧ s.isOpen = true ∧ s.TailBits (List.replicate 8 true) ∧
      walkFrom root (List.replicate 8 true ++ s.viewBits) = some (.node 8) ∧
      ∀ k, k ≤ 7 → List.replicate 8 true ++ s.viewBits ≠ List.replicate k true :=
  ⟨⟨inContext [0xff] 1, inContext_inv _ _ (by decide) (by decide), rfl, rfl, inContext_tail _ _, by decide,
      not_ones (by decide)⟩,
    ⟨afterOnes 8, afterOnes_inv 8 ⟨by decide, rfl, rfl⟩, rfl, rfl, ⟨by decide, rfl, rfl⟩, by decide,
      not_ones (by decide)⟩⟩

theorem witness_CodeWordsReportTheirSymbol :
    (⟨.huf48, 48, 5, 0x0⟩ : HufRow) ∈ hufRows ∧ (⟨.huf10, 10, 30, 0x3ffffffc⟩ : HufRow) ∈ hufRows ∧
    (inContext [0xff, 0xff, 0xff, 0xff] 4).Inv ∧ (inContext [0xff, 0xff, 0xff, 0xff] 4).err = false ∧
    (inContext [0xff, 0xff, 0xff, 0xff] 4).isOpen = true ∧ (inContext [0xff, 0xff, 0xff, 0xff] 4).TailBits [] ∧
    30 ≤ (inContext [0xff, 0xff, 0xff, 0xff] 4).viewBits.length :=
  ⟨by decide, by decide, inContext_inv _ _ (by decide) (by decide), rfl, rfl, inContext_tail _ _, by decide⟩

theorem witness_EosCodeRaisesHufEos :
    (inContext [0, 0, 0, 0] 4).Inv ∧ (inContext [0, 0, 0, 0] 4).err = false ∧
    (inContext [0, 0, 0, 0] 4).isOpen = true ∧ (inContext [0, 0, 0, 0] 4).TailBits [] ∧
    30 ≤ (inContext [0, 0, 0, 0] 4).viewBits.length :=
  ⟨inContext_inv _ _ (by decide) (by decide), rfl, rfl, inContext_tail _ _, by decide⟩

theorem witness_RdsymSeesOnlyTheView :
    (inContext [0x1f, 0x2a] 1).pos.toNat ≤ (inContext [0x1f, 0x2a] 1).lim.toNat ∧
    (∀ a, a < (inContext [0x1f, 0x2a] 1).lim.toNat →
      (Memory.ofBytes [0x1f, 0x99]).read a = (inContext [0x1f, 0x2a] 1).inp.read a) ∧
    seen (exec .rdsym (inContext [0x1f, 0x2a] 1)) (fun t => t.rVal) = some 97 :=
  ⟨by decide, by
    intro a ha
    have : a = 0 := Nat.lt_one_iff.mp ha
    subst this
    decide, by decide⟩

/-! ### Witnesses: DECINT -/

theorem integerAt_short (b : Byte) (n : Nat) (h : prefixField n b < fullPrefix n) (h64 : prefixField n b < 2 ^ 64)
    (hb : (fresh [b]).inp.bytes 0 1 = [b]) : (fresh [b]).IntegerAt n b [] (prefixField n b) :=
  ⟨hb, Nat.le_refl 1, .inl ⟨rfl, h, rfl⟩, Nat.le_sub_one_of_lt h64⟩

/-- E1, V-I26 with N = 1 and V-I28 with N = 8: the longest shortest forms. -/
theorem witness_DecintDecodesTheInteger :
    (∃ s : State, s.Inv ∧ s.err = false ∧ s.isOpen = false ∧ s.IntegerAt 5 0x0a [] 10) ∧
    (∃ s : State, s.Inv ∧ s.err = false ∧ s.isOpen = false ∧
      s.IntegerAt 1 0x01 [0xfe, 0xff, 0xff, 0xff, 0xff, 0xff, 0xff, 0xff, 0xff, 0x01] (2 ^ 64 - 1)) ∧
    ∃ s : State, s.Inv ∧ s.err = false ∧ s.isOpen = false ∧
      s.IntegerAt 8 0xff [0x80, 0xfe, 0xff, 0xff, 0xff, 0xff, 0xff, 0xff, 0xff, 0x01] (2 ^ 64 - 1) :=
  ⟨⟨fresh [0x0a], fresh_inv _ _ (by decide), rfl, rfl, integerAt_short 0x0a 5 (by decide) (by decide) (by decide)⟩,
    ⟨fresh [0x01, 0xfe, 0xff, 0xff, 0xff, 0xff, 0xff, 0xff, 0xff, 0xff, 0x01], fresh_inv _ _ (by decide), rfl, rfl,
      by decide, by decide, .inr ⟨[0xfe, 0xff, 0xff, 0xff, 0xff, 0xff, 0xff, 0xff, 0xff], 0x01, rfl, by decide,
        by decide, by decide, by decide⟩, by decide⟩,
    ⟨fresh [0xff, 0x80, 0xfe, 0xff, 0xff, 0xff, 0xff, 0xff, 0xff, 0xff, 0x01], fresh_inv _ _ (by decide), rfl, rfl,
      by decide, by decide, .inr ⟨[0x80, 0xfe, 0xff, 0xff, 0xff, 0xff, 0xff, 0xff, 0xff], 0x01, rfl, by decide,
        by decide, by decide, by decide⟩, by decide⟩⟩

/-- V-I29: one more than the largest value. -/
theorem witness_DecintRaisesOverflow :
    let cs : List Byte := [0x81, 0xfe, 0xff, 0xff, 0xff, 0xff, 0xff, 0xff, 0xff]
    let s := fresh (0xff :: (cs ++ [0x01]))
    s.Inv ∧ s.err = false ∧ s.isOpen = false ∧
    s.inp.bytes s.pos.toNat (1 + (cs ++ [0x01#8]).length) = 0xff :: (cs ++ [0x01]) ∧
    1 + (cs ++ [0x01#8]).length ≤ s.bytesLeft ∧ prefixField 8 0xff = fullPrefix 8 ∧ cs.all moreFlag = true ∧
    fullPrefix 8 + continuationValue 0 cs ≤ 2 ^ 64 - 1 ∧
    2 ^ 64 - 1 < fullPrefix 8 + continuationValue 0 (cs ++ [0x01]) :=
  ⟨fresh_inv _ _ (by decide), rfl, rfl, by decide, by decide, by decide, by decide, by decide, by decide⟩

/-- V-I22, E6, V-I19. -/
theorem witness_DecintRaisesTruncated :
    ((fresh []).Inv ∧ (fresh []).err = false ∧ (fresh []).isOpen = false ∧ (fresh []).bytesLeft = 0) ∧
    (let s := fresh [0x01]
     s.Inv ∧ s.inp.bytes s.pos.toNat s.bytesLeft = 0x01 :: [] ∧ prefixField 1 0x01 = fullPrefix 1 ∧
      fullPrefix 1 + continuationValue 0 [] ≤ 2 ^ 64 - 1) ∧
    let s := fresh [0x7f, 0xff]
    s.Inv ∧ s.inp.bytes s.pos.toNat s.bytesLeft = 0x7f :: [0xff] ∧ prefixField 7 0x7f = fullPrefix 7 ∧
      [0xff#8].all moreFlag = true ∧ fullPrefix 7 + continuationValue 0 [0xff] ≤ 2 ^ 64 - 1 :=
  ⟨⟨fresh_inv _ _ (by decide), rfl, rfl, by decide⟩,
    ⟨fresh_inv _ _ (by decide), by decide, by decide, by decide⟩,
    fresh_inv _ _ (by decide), by decide, by decide, by decide, by decide⟩

theorem witness_DecintRefusesBadPrefixSizes :
    (fresh [0x0a]).err = false ∧ (fresh [0x0a]).isOpen = false ∧ 0 = 0 ∧ 8 < 9 := by decide

theorem witness_DecintInvertsTheShortestForm :
    let s := fresh (encodeInteger (2 ^ 64 - 1) 5 0xe0)
    let s' := fresh (encodeInteger 0 8 0)
    (s.Inv ∧ s.err = false ∧ s.isOpen = false ∧ (0xe0#8).toNat % 2 ^ 5 = 0 ∧
      (encodeInteger (2 ^ 64 - 1) 5 0xe0).length ≤ s.bytesLeft ∧
      s.inp.bytes s.pos.toNat (encodeInteger (2 ^ 64 - 1) 5 0xe0).length = encodeInteger (2 ^ 64 - 1) 5 0xe0) ∧
    (s'.Inv ∧ (encodeInteger 0 8 0).length ≤ s'.bytesLeft ∧
      s'.inp.bytes s'.pos.toNat (encodeInteger 0 8 0).length = encodeInteger 0 8 0) :=
  ⟨⟨fresh_inv _ _ (by decide), rfl, rfl, by decide, by decide, by decide⟩,
    fresh_inv _ _ (by decide), by decide, by decide⟩

/-! ### Witnesses: DECHUF and DECSTR -/

/-- V-S19 (nothing at all), V-S7 (no padding), and the codes of `w` and `!` (30_encoding.md R99) with seven ones. -/
theorem witness_DechufDecodesAValidBody :
    (let s := fresh [] 0
     s.Inv ∧ s.err = false ∧ s.isOpen = false ∧ s.arg.toNat ≤ s.bytesLeft ∧
      s.bodyBits s.arg.toNat = stringBits [] ++ List.replicate 0 true) ∧
    (let s := fresh [0xf8] 1
     s.Inv ∧ s.err = false ∧ s.isOpen = false ∧ s.arg.toNat ≤ s.bytesLeft ∧
      s.bodyBits s.arg.toNat = stringBits [0x26] ++ List.replicate 0 true) ∧
    let s := fresh [0xf1, 0xfc, 0x7f] 3
    s.Inv ∧ s.err = false ∧ s.isOpen = false ∧ s.arg.toNat ≤ s.bytesLeft ∧
      s.bodyBits s.arg.toNat = stringBits [0x77, 0x21] ++ List.replicate 7 true :=
  ⟨⟨fresh_inv _ _ (by decide), rfl, rfl, by decide, by decide⟩,
    ⟨fresh_inv _ _ (by decide), rfl, rfl, by decide, by decide⟩,
    fresh_inv _ _ (by decide), rfl, rfl, by decide, by decide⟩

theorem every_code_has_a_zero : ∀ b : Byte, (hufCode b.toNat).all id = false := by decide +kernel

theorem not_valid_body {l : List Bool} (ones : l.all id = true) (long : 8 ≤ l.length) :
    ∀ str k, k ≤ 7 → l ≠ stringBits str ++ List.replicate k true := by
  intro str k hk he
  subst he
  cases str with
  | nil =>
    simp [stringBits] at long
    omega
  | cons b bs =>
    rw [stringBits, List.flatMap_cons, List.append_assoc, List.all_append, every_code_has_a_zero b] at ones
    cases ones

/-- V-S20 and V-S26. -/
theorem witness_DechufRejectsEveryOtherBody :
    (let s := fresh [0xff] 1
     s.Inv ∧ s.err = false ∧ s.isOpen = false ∧ s.arg.toNat ≤ s.bytesLeft ∧
      (∀ str k, k ≤ 7 → s.bodyBits s.arg.toNat ≠ stringBits str ++ List.replicate k true) ∧
      seen (exec .dechuf s) (fun t => t.cause) = some .hufBadTail) ∧
    let s := fresh [0xff, 0xff, 0xff, 0xff] 4
    s.Inv ∧ s.err = false ∧ s.isOpen = false ∧ s.arg.toNat ≤ s.bytesLeft ∧
      (∀ str k, k ≤ 7 → s.bodyBits s.arg.toNat ≠ stringBits str ++ List.replicate k true) ∧
      s.bodyBits s.arg.toNat = stringBits [] ++ List.replicate 30 true ++ [true, true] ∧
      seen (exec .dechuf s) (fun t => t.cause) = some .hufEos :=
  ⟨⟨fresh_inv _ _ (by decide), rfl, rfl, by decide, not_valid_body (by decide) (by decide), by decide⟩,
    fresh_inv _ _ (by decide), rfl, rfl, by decide, not_valid_body (by decide) (by decide), by decide, by decide⟩

/-- V-S29. -/
theorem witness_DechufRaisesStrTruncated :
    let s := fresh [0x07] 2
    s.err = false ∧ s.isOpen = false ∧ s.bytesLeft < s.arg.toNat := by decide

/-- V-S9, and the empty string (V-S9d). -/
theorem witness_DechufInvertsTheReferenceEncoder :
    (let s := fresh (encodeString [0xff]) 4
     s.Inv ∧ s.err = false ∧ s.isOpen = false ∧ s.arg.toNat = (encodeString [0xff]).length ∧
      (encodeString [0xff]).length ≤ s.bytesLeft ∧
      s.inp.bytes s.pos.toNat (encodeString [0xff]).length = encodeString [0xff]) ∧
    let s := fresh [0x55] 0
    s.Inv ∧ s.err = false ∧ s.isOpen = false ∧ s.arg.toNat = (encodeString []).length ∧
      (encodeString []).length ≤ s.bytesLeft ∧
      s.inp.bytes s.pos.toNat (encodeString []).length = encodeString [] :=
  ⟨⟨fresh_inv _ _ (by decide), rfl, rfl, by decide, by decide, by decide⟩,
    fresh_inv _ _ (by decide), rfl, rfl, by decide, by decide, by decide⟩

/-- V-S15: the bound of eight bytes is reached. -/
theorem witness_DechufOutputStaysWithinTheBound :
    (fresh [0x08, 0x42, 0x10, 0x84, 0x21] 5).err = false ∧
    seen (exec .dechuf (fresh [0x08, 0x42, 0x10, 0x84, 0x21] 5)) (fun t => t.out.length) = some (8 * 5 / 5) := by
  decide

theorem integerAt_one {bytes : List Byte} {b : Byte} {v : Nat} (hb : (fresh bytes).inp.bytes 0 1 = [b])
    (hl : 1 ≤ (fresh bytes).bytesLeft) (hv : prefixField 7 b < fullPrefix 7 ∧ v = prefixField 7 b) :
    (fresh bytes).IntegerAt 7 b [] v :=
  ⟨hb, hl, .inl ⟨rfl, hv⟩, by
    have h : fullPrefix 7 = 127 := rfl
    show v ≤ 2 ^ 64 - 1
    omega⟩

/-- V-S31 and V-S34. -/
theorem witness_DecstrCopiesARawBody :
    (let s := fresh [0x00]
     s.Inv ∧ s.err = false ∧ s.isOpen = false ∧ s.IntegerAt 7 0x00 [] 0 ∧ (0x00#8).getLsbD 7 = false ∧
      1 + 0 + 0 ≤ s.bytesLeft) ∧
    let s := fresh [0x01, 0xff]
    s.Inv ∧ s.err = false ∧ s.isOpen = false ∧ s.IntegerAt 7 0x01 [] 1 ∧ (0x01#8).getLsbD 7 = false ∧
      1 + 0 + 1 ≤ s.bytesLeft :=
  ⟨⟨fresh_inv _ _ (by decide), rfl, rfl, integerAt_one (by decide) (by decide) (by decide), rfl, by decide⟩,
    fresh_inv _ _ (by decide), rfl, rfl, integerAt_one (by decide) (by decide) (by decide), rfl, by decide⟩

/-- V-S37, and a body with seven bits of padding. -/
theorem witness_DecstrDecodesAHuffmanBody :
    (let s := fresh [0x82, 0xf8, 0x07, 0xaa]
     s.Inv ∧ s.err = false ∧ s.isOpen = false ∧ s.IntegerAt 7 0x82 [] 2 ∧ (0x82#8).getLsbD 7 = true ∧
      1 + 0 + 2 ≤ s.bytesLeft ∧
      (s.inp.bytes (s.pos.toNat + (1 + 0)) 2).flatMap byteBits = stringBits [0x26, 0x30] ++ List.replicate 3 true) ∧
    let s := fresh [0x83, 0xf1, 0xfc, 0x7f]
    s.Inv ∧ s.err = false ∧ s.isOpen = false ∧ s.IntegerAt 7 0x83 [] 3 ∧ (0x83#8).getLsbD 7 = true ∧
      1 + 0 + 3 ≤ s.bytesLeft ∧
      (s.inp.bytes (s.pos.toNat + (1 + 0)) 3).flatMap byteBits = stringBits [0x77, 0x21] ++ List.replicate 7 true :=
  ⟨⟨fresh_inv _ _ (by decide), rfl, rfl, integerAt_one (by decide) (by decide) (by decide), rfl, by decide, by decide⟩,
    fresh_inv _ _ (by decide), rfl, rfl, integerAt_one (by decide) (by decide) (by decide), rfl, by decide, by decide⟩

/-- V-S40's shape with one byte missing, raw and Huffman. -/
theorem witness_DecstrRaisesStrTruncated :
    (let s := fresh [0x02, 0x63]
     s.Inv ∧ s.err = false ∧ s.isOpen = false ∧ s.IntegerAt 7 0x02 [] 2 ∧ s.bytesLeft < 1 + 0 + 2) ∧
    let s := fresh [0x82, 0x1f]
    s.Inv ∧ s.err = false ∧ s.isOpen = false ∧ s.IntegerAt 7 0x82 [] 2 ∧ s.bytesLeft < 1 + 0 + 2 :=
  ⟨⟨fresh_inv _ _ (by decide), rfl, rfl, integerAt_one (by decide) (by decide) (by decide), by decide⟩,
    fresh_inv _ _ (by decide), rfl, rfl, integerAt_one (by decide) (by decide) (by decide), by decide⟩

/-- V-S35 and V-S44. -/
theorem witness_DecstrRejectsEveryOtherHuffmanBody :
    (let s := fresh [0x81, 0xff]
     let body := { s with pos := BitVec.ofNat 64 (s.pos.toNat + (1 + 0)), h := true }
     s.Inv ∧ s.err = false ∧ s.isOpen = false ∧ s.IntegerAt 7 0x81 [] 1 ∧ (0x81#8).getLsbD 7 = true ∧
      1 + 0 + 1 ≤ s.bytesLeft ∧
      (∀ str k, k ≤ 7 → body.bodyBits 1 ≠ stringBits str ++ List.replicate k true) ∧
      seen (exec .decstr s) (fun t => t.cause) = some .hufBadTail) ∧
    let s := fresh [0x84, 0xff, 0xff, 0xff, 0xff]
    let body := { s with pos := BitVec.ofNat 64 (s.pos.toNat + (1 + 0)), h := true }
    s.Inv ∧ s.err = false ∧ s.isOpen = false ∧ s.IntegerAt 7 0x84 [] 4 ∧ (0x84#8).getLsbD 7 = true ∧
      1 + 0 + 4 ≤ s.bytesLeft ∧
      (∀ str k, k ≤ 7 → body.bodyBits 4 ≠ stringBits str ++ List.replicate k true) ∧
      seen (exec .decstr s) (fun t => t.cause) = some .hufEos :=
  ⟨⟨fresh_inv _ _ (by decide), rfl, rfl, integerAt_one (by decide) (by decide) (by decide), rfl, by decide,
      not_valid_body (by decide) (by decide), by decide⟩,
    fresh_inv _ _ (by decide), rfl, rfl, integerAt_one (by decide) (by decide) (by decide), rfl, by decide,
      not_valid_body (by decide) (by decide), by decide⟩

/-- V-S47. -/
theorem witness_DecstrRaisesIntOverflow :
    let cs : List Byte := [0xe0, 0xff, 0xff, 0xff, 0xff, 0xff, 0xff, 0xff, 0xff]
    let s := fresh (0xff :: (cs ++ [0x01]))
    s.Inv ∧ s.err = false ∧ s.isOpen = false ∧
    s.inp.bytes s.pos.toNat (1 + (cs ++ [0x01#8]).length) = 0xff :: (cs ++ [0x01]) ∧
    1 + (cs ++ [0x01#8]).length ≤ s.bytesLeft ∧ prefixField 7 0xff = fullPrefix 7 ∧ cs.all moreFlag = true ∧
    fullPrefix 7 + continuationValue 0 cs ≤ 2 ^ 64 - 1 ∧
    2 ^ 64 - 1 < fullPrefix 7 + continuationValue 0 (cs ++ [0x01]) :=
  ⟨fresh_inv _ _ (by decide), rfl, rfl, by decide, by decide, by decide, by decide, by decide, by decide⟩

/-- V-S42 and V-S43, the second with a continuation byte that asks for more. -/
theorem witness_DecstrRaisesIntTruncated :
    (let s := fresh [0x7f]
     s.Inv ∧ s.err = false ∧ s.isOpen = false ∧ s.inp.bytes s.pos.toNat s.bytesLeft = 0x7f :: [] ∧
      prefixField 7 0x7f = fullPrefix 7 ∧ ([] : List Byte).all moreFlag = true ∧
      fullPrefix 7 + continuationValue 0 [] ≤ 2 ^ 64 - 1) ∧
    let s := fresh [0xff, 0xff]
    s.Inv ∧ s.err = false ∧ s.isOpen = false ∧ s.inp.bytes s.pos.toNat s.bytesLeft = 0xff :: [0xff] ∧
      prefixField 7 0xff = fullPrefix 7 ∧ [0xff#8].all moreFlag = true ∧
      fullPrefix 7 + continuationValue 0 [0xff] ≤ 2 ^ 64 - 1 :=
  ⟨⟨fresh_inv _ _ (by decide), rfl, rfl, by decide, by decide, by decide, by decide⟩,
    fresh_inv _ _ (by decide), rfl, rfl, by decide, by decide, by decide, by decide⟩

/-- V-S41 and V-S43. -/
theorem witness_DecstrLatchesTheHuffmanFlag :
    ((fresh []).err = false ∧ (fresh []).isOpen = false ∧ (fresh []).pos = (fresh []).lim) ∧
    (fresh [0xff]).err = false ∧ (fresh [0xff]).isOpen = false ∧ (fresh [0xff]).pos ≠ (fresh [0xff]).lim ∧
    (fresh [0xff]).inp.read (fresh [0xff]).pos.toNat = some 0xff ∧
    seen (exec .decstr (fresh [0xff])) (fun t => t.err) = some true := by decide

/-! ### Witnesses: frames and the whole machine -/

theorem witness_NoInstructionChangesInputOrArg :
    seen (exec .decstr (fresh [0x81, 0x07] 9)) (fun t => (t.arg, t.inp)) = some (9, Memory.ofBytes [0x81, 0x07]) := by
  decide

theorem witness_FrameOfDecintAndReads :
    seen (exec (.decint 5) (fresh [0x0a])) (fun t => t.err) = some false ∧
    seen (exec .rdsym afterZero) (fun t => t.err) = some false ∧
    (⟨.huf97, 97, 5, 0x3⟩ : HufRow) ∈ hufRows ∧
    seen (exec .huf97 (inContext [0x1f] 1)) (fun t => t.err) = some false := by decide

theorem witness_FrameOfStringCommands :
    (fresh [0x81, 0x07] 2).Inv ∧ (fresh [0x81, 0x07] 2).err = false ∧ (fresh [0x81, 0x07] 2).isOpen = false ∧
    seen (exec .dechuf (fresh [0x07] 1)) (fun t => t.err) = some false ∧
    seen (exec .decstr (fresh [0x81, 0x07] 2)) (fun t => t.err) = some false ∧
    seen (exec .decstr (fresh [0x01, 0x07])) (fun t => t.h) = some false :=
  ⟨fresh_inv _ _ (by decide), rfl, rfl, by decide, by decide, by decide⟩

theorem witness_EveryStepKeepsTheInvariants :
    (∃ s : State, s.Inv ∧ seen (step s) (fun t => t.isOpen) = some true) ∧ afterZero.Inv :=
  ⟨⟨{ fresh [0x1f] 1 with hostq := [.writeCmd 0x40#8] },
    inv_of_fields (bits := []) ⟨by decide, by decide, by decide⟩ (fun _ => ⟨rfl, rfl, rfl, rfl, rfl, rfl⟩) (.inl rfl)
      (fun _ => rfl) (fun h => absurd rfl h) ⟨rfl, rfl, rfl⟩ rfl rfl rfl rfl rfl, by decide⟩, afterZero_inv⟩

theorem witness_EveryInstructionCompletes :
    afterZero.Inv ∧ seen (exec .rdsym afterZero) (fun t => t.rKind) = some .streamEnd :=
  ⟨afterZero_inv, by decide⟩

theorem witness_PosNeverMovesBackwards :
    ∃ s : State, s.Inv ∧ s.noResetNext ∧ seen (step s) (fun t => t.pos) = some 1 :=
  ⟨{ fresh [0x0a] 1 with hostq := [.writeCmd 0x15#8] },
    inv_of_fields (bits := []) ⟨by decide, by decide, by decide⟩ (fun _ => ⟨rfl, rfl, rfl, rfl, rfl, rfl⟩) (.inl rfl)
      (fun _ => rfl) (fun h => absurd rfl h) ⟨rfl, rfl, rfl⟩ rfl rfl rfl rfl rfl,
    fun _ h => by simp at h, by decide⟩

theorem witness_CoresAreIndependent :
    1 ≠ 0 ∧ (match stepCore 0 [fresh [0x0a], fresh [0x0b]] with
      | .next sys => sys[1]? = some (fresh [0x0b])
      | _ => False) := ⟨by decide, rfl⟩

end Sys2Proof.Tests
end

section
/-!
The family of 10_state.md. First a layer of facts: what the invariants say of the view and the reader alone, what every
procedure inside a command reaches (`Reached`), and how a command ends (`Ends`). Then the statements, each from that layer.
-/

namespace Sys2Proof.Machine

/-! ### The invariants of the view and the reader -/

/-- The part of `State.Inv` that speaks of `pos`, the view and the reader; it holds inside a command too. -/
structure State.ReaderInv (s : State) : Prop where
  view : s.ViewOk
  closed : s.isOpen = false → s.lim = s.inp.len ∧ s.ReaderCleared
  maskOneHot : s.mask = 0 ∨ ∃ k, k < 8 ∧ s.mask = 1#8 <<< k
  curCleared : s.mask = 0 → s.cur = 0
  curPulled : s.mask ≠ 0 → 1 ≤ s.pos.toNat ∧ s.inp.read (s.pos.toNat - 1) = some s.cur
  tail : ∃ bits, s.TailBits bits

theorem State.Inv.readerInv {s : State} (h : s.Inv) : s.ReaderInv :=
  ⟨h.view, h.closed, h.maskOneHot, h.curCleared, h.curPulled, h.tail⟩

theorem State.ReaderInv.mask_eq_zero {s : State} (h : s.ReaderInv) (ho : s.isOpen = false) : s.mask = 0 :=
  (h.closed ho).2.mask

/-- The registers that `State.ReaderInv` does not name are free. -/
theorem State.ReaderInv.withOthers {s : State} {flag : Bool} {out : List Byte} {kind : ResultKind}
    {val cnt : Word64} {err : Bool} {cause : Cause} {arg : Word64} {q : List HostAction} (h : s.ReaderInv) :
    State.ReaderInv { s with
      h := flag, out := out, rKind := kind, rVal := val, rCnt := cnt, err := err, cause := cause, arg := arg,
      hostq := q } := by
  obtain ⟨⟨hmem, hpos, hlim⟩, hclosed, hhot, hcur, hpull, bits, hwalk, hcount, hones⟩ := h
  refine ⟨⟨hmem, hpos, hlim⟩, fun ho => ?_, hhot, hcur, hpull, bits, hwalk, hcount, hones⟩
  obtain ⟨hl, hc, hm, hn, ht, hon⟩ := hclosed ho
  exact ⟨hl, hc, hm, hn, ht, hon⟩

/-- Inside the view `Advance` does not wrap. -/
theorem State.advance_pos_toNat {s : State} {n : Nat} (h : s.pos.toNat + n ≤ s.lim.toNat) :
    (s.advance n).pos.toNat = s.pos.toNat + n := by
  have := s.lim.isLt
  simp only [State.advance_pos, BitVec.toNat_ofNat]
  omega

/-- With no byte pending, `Advance` inside the view keeps the invariants. -/
theorem State.ReaderInv.advance {s : State} {n : Nat} (h : s.ReaderInv) (hm : s.mask = 0)
    (hn : s.pos.toNat + n ≤ s.lim.toNat) : (s.advance n).ReaderInv := by
  obtain ⟨⟨hmem, _, hlim⟩, hclosed, hhot, hcur, _, bits, hwalk, hcount, hones⟩ := h
  refine ⟨⟨hmem, ?_, hlim⟩, fun ho => ?_, hhot, hcur, fun hne => absurd hm hne, bits, hwalk, hcount, hones⟩
  · rw [State.advance_pos_toNat hn]
    exact hn
  · obtain ⟨hl, hc, hm', hn', ht, hon⟩ := hclosed ho
    exact ⟨hl, hc, hm', hn', ht, hon⟩

/-- A byte pulled from inside the view is the one before the new `pos` (R25, R63). -/
theorem State.ReaderInv.pullByte {s : State} {b : Byte} (h : s.ReaderInv) (ho : s.isOpen = true)
    (hlt : s.pos.toNat < s.lim.toNat) (hb : s.inp.read s.pos.toNat = some b) : (s.pullByte b).ReaderInv := by
  obtain ⟨⟨hmem, _, hlim⟩, _, _, _, _, bits, hwalk, hcount, hones⟩ := h
  have hpos : (s.pullByte b).pos.toNat = s.pos.toNat + 1 := State.advance_pos_toNat hlt
  refine ⟨⟨hmem, ?_, hlim⟩, fun hc => ?_, .inr ⟨7, by decide, rfl⟩, fun hm => ?_, fun _ => ?_, bits, hwalk, hcount,
    hones⟩
  · rw [hpos]
    exact hlt
  · simp [ho] at hc
  · simp at hm
  · rw [hpos]
    exact ⟨by omega, hb⟩

/-- The cursor after a one-hot `mask` is 0 or one-hot (R26). -/
theorem nextMask_oneHot {m : BitVec 8} (h : m = 0 ∨ ∃ k, k < 8 ∧ m = 1#8 <<< k) :
    nextMask m = 0 ∨ ∃ k, k < 8 ∧ nextMask m = 1#8 <<< k := by
  obtain rfl | ⟨k, hk, rfl⟩ := h
  · exact .inl rfl
  · cases k with
    | zero => exact .inl rfl
    | succ j => exact .inr ⟨j, by omega, (by decide : ∀ j < 7, nextMask (1#8 <<< (j + 1)) = 1#8 <<< j) j (by omega)⟩

theorem State.ReaderInv.shiftBit {s : State} (h : s.ReaderInv) (ho : s.isOpen = true) : s.shiftBit.ReaderInv := by
  obtain ⟨⟨hmem, hpos, hlim⟩, _, hhot, _, hpull, bits, hwalk, hcount, hones⟩ := h
  refine ⟨⟨hmem, hpos, hlim⟩, fun hc => ?_, nextMask_oneHot hhot, fun hm => if_pos hm, fun hm => ?_, bits, hwalk,
    hcount, hones⟩
  · simp [ho] at hc
  · have hne : s.mask ≠ 0 := fun h0 => hm (by rw [State.shiftBit_mask, h0]; rfl)
    have hcur : s.shiftBit.cur = s.cur := if_neg hm
    rw [hcur]
    exact hpull hne

/-- One more bit after a path to an internal node follows the edge of that bit. -/
theorem walkFrom_append_bit {i j : NodeId} {bits : List Bool} (h : walkFrom i bits = some (.node j)) (b : Bool) :
    walkFrom i (bits ++ [b]) = some (nextChild j b) := by
  induction bits generalizing i with
  | nil =>
    cases h
    cases hn : nextChild j b <;> simp [walkFrom, hn]
  | cons c cs ih =>
    simp only [List.cons_append, walkFrom] at h ⊢
    cases hn : nextChild i c with
    | node k =>
      rw [hn] at h
      exact ih h
    | leaf sym =>
      rw [hn] at h
      simp only at h
      split at h <;> cases h

theorem nextTail_toNat (t : BitVec 4) : (nextTail t).toNat = min (t.toNat + 1) 8 := by
  simp only [nextTail, BitVec.toNat_ofNat]
  omega

/-- A counted bit joins the tail bits (R27 to R29). -/
theorem State.TailBits.countBit {s : State} {bits : List Bool} {b : Bool} {i : NodeId} (h : s.TailBits bits)
    (hi : nextChild s.node b = .node i) : (s.countBit b i).TailBits (bits ++ [b]) where
  walk := by rw [walkFrom_append_bit h.walk, hi, State.countBit_node]
  count := by
    have := h.count
    rw [State.countBit_tail, nextTail_toNat, List.length_append, List.length_singleton]
    omega
  allOnes := by simp [nextOnes, h.allOnes]

theorem State.ReaderInv.countBit {s : State} {b : Bool} {i : NodeId} (h : s.ReaderInv) (ho : s.isOpen = true)
    (hi : nextChild s.node b = .node i) : (s.countBit b i).ReaderInv := by
  obtain ⟨⟨hmem, hpos, hlim⟩, _, hhot, hcur, hpull, bits, htail⟩ := h
  refine ⟨⟨hmem, hpos, hlim⟩, fun hc => ?_, hhot, hcur, hpull, _, htail.countBit hi⟩
  simp [ho] at hc

theorem State.ReaderInv.toRoot {s : State} (h : s.ReaderInv) : s.toRoot.ReaderInv := by
  obtain ⟨⟨hmem, hpos, hlim⟩, hclosed, hhot, hcur, hpull, _⟩ := h
  refine ⟨⟨hmem, hpos, hlim⟩, fun ho => ?_, hhot, hcur, hpull, [], rfl, rfl, rfl⟩
  obtain ⟨hl, hc, hm, _⟩ := hclosed ho
  exact ⟨hl, hc, hm, rfl, rfl, rfl⟩

/-- A view of bytes that are there keeps the invariants (R140). -/
theorem State.ReaderInv.openView {s : State} {len : Nat} (h : s.ReaderInv) (hl : len ≤ s.bytesLeft) :
    (s.openView len).ReaderInv := by
  obtain ⟨⟨hmem, hpos, hlim⟩, _⟩ := h
  have hlt := s.lim.isLt
  have hend : (s.openView len).lim.toNat = s.pos.toNat + len := by
    unfold State.bytesLeft at hl
    simp only [State.openView_lim, BitVec.toNat_ofNat]
    omega
  unfold State.bytesLeft at hl
  refine ⟨⟨hmem, ?_, ?_⟩, fun hc => ?_, .inl rfl, fun _ => rfl, fun hm => absurd rfl hm, [], rfl, rfl, rfl⟩
  · rw [hend]
    exact Nat.le_add_right _ _
  · rw [hend, State.openView_inp]
    omega
  · cases hc

/-- Closing a context keeps the invariants, with all of IN as the view (R144). -/
theorem State.ReaderInv.closeContext {s : State} (h : s.ReaderInv) : s.closeContext.ReaderInv := by
  obtain ⟨⟨hmem, hpos, hlim⟩, _⟩ := h
  exact ⟨⟨hmem, hpos.trans hlim, Nat.le_refl _⟩, fun _ => ⟨rfl, rfl, rfl, rfl, rfl, rfl⟩, .inl rfl, fun _ => rfl,
    fun hm => absurd rfl hm, [], rfl, rfl, rfl⟩

/-! ### What the procedures of a command reach -/

/-- `t` is where a procedure that starts in `s` can get: H, the error registers, ARG, the input and the host's list are as
before, and from a state within the invariants of the reader it stays within them and moves `pos` forwards only. -/
structure Reached (s t : State) : Prop where
  h : t.h = s.h
  err : t.err = s.err
  cause : t.cause = s.cause
  arg : t.arg = s.arg
  inp : t.inp = s.inp
  hostq : t.hostq = s.hostq
  safe : s.ReaderInv → t.ReaderInv ∧ s.pos.toNat ≤ t.pos.toNat

theorem Reached.refl (s : State) : Reached s s := ⟨rfl, rfl, rfl, rfl, rfl, rfl, fun h => ⟨h, Nat.le_refl _⟩⟩

theorem Reached.trans {s t u : State} (a : Reached s t) (b : Reached t u) : Reached s u where
  h := b.h.trans a.h
  err := b.err.trans a.err
  cause := b.cause.trans a.cause
  arg := b.arg.trans a.arg
  inp := b.inp.trans a.inp
  hostq := b.hostq.trans a.hostq
  safe hs :=
    have ⟨ht, hpos⟩ := a.safe hs
    have ⟨hu, hpos'⟩ := b.safe ht
    ⟨hu, hpos.trans hpos'⟩

theorem Reached.clearOut (s : State) : Reached s s.clearOut :=
  ⟨rfl, rfl, rfl, rfl, rfl, rfl, fun h => ⟨h.withOthers, Nat.le_refl _⟩⟩

theorem Reached.outAppend (s : State) (v : Byte) : Reached s (s.outAppend v) :=
  ⟨rfl, rfl, rfl, rfl, rfl, rfl, fun h => ⟨h.withOthers, Nat.le_refl _⟩⟩

theorem Reached.toRoot (s : State) : Reached s s.toRoot :=
  ⟨rfl, rfl, rfl, rfl, rfl, rfl, fun h => ⟨h.toRoot, Nat.le_refl _⟩⟩

theorem Reached.closeContext (s : State) : Reached s s.closeContext :=
  ⟨rfl, rfl, rfl, rfl, rfl, rfl, fun h => ⟨h.closeContext, Nat.le_refl _⟩⟩

section
variable {s : State}

theorem Reached.openView {len : Nat} (hl : len ≤ s.bytesLeft) : Reached s (s.openView len) :=
  ⟨rfl, rfl, rfl, rfl, rfl, rfl, fun h => ⟨h.openView hl, Nat.le_refl _⟩⟩

theorem Reached.countBit {b : Bool} {i : NodeId} (ho : s.isOpen = true) (hi : nextChild s.node b = .node i) :
    Reached s (s.countBit b i) :=
  ⟨rfl, rfl, rfl, rfl, rfl, rfl, fun h => ⟨h.countBit ho hi, Nat.le_refl _⟩⟩

theorem Reached.shiftBit (ho : s.isOpen = true) : Reached s s.shiftBit :=
  ⟨rfl, rfl, rfl, rfl, rfl, rfl, fun h => ⟨h.shiftBit ho, Nat.le_refl _⟩⟩

/-- A byte that Peek finds lies inside the view. -/
theorem State.ReaderInv.read_of_peek {b : Byte} (h : s.ReaderInv) (hp : s.peek = .byte b) :
    s.pos.toNat < s.lim.toNat ∧ s.inp.read s.pos.toNat = some b := by
  obtain ⟨_, he⟩ | ⟨b', hlt, hr, he⟩ := State.peek_cases h.view.posLim h.view.limLen <;> rw [he] at hp <;> cases hp
  exact ⟨hlt, hr⟩

theorem Reached.pullByte {b : Byte} (ho : s.isOpen = true) (hp : s.peek = .byte b) : Reached s (s.pullByte b) := by
  refine ⟨rfl, rfl, rfl, rfl, rfl, rfl, fun h => ?_⟩
  obtain ⟨hlt, hr⟩ := h.read_of_peek hp
  have hpos : (s.pullByte b).pos.toNat = s.pos.toNat + 1 := State.advance_pos_toNat hlt
  exact ⟨h.pullByte ho hlt hr, by omega⟩

/-- `Advance` over bytes of the view, outside a context. -/
theorem Reached.advance {n : Nat} (ho : s.isOpen = false) (hn : s.ReaderInv → s.pos.toNat + n ≤ s.lim.toNat) :
    Reached s (s.advance n) := by
  refine ⟨rfl, rfl, rfl, rfl, rfl, rfl, fun h => ⟨h.advance (h.mask_eq_zero ho) (hn h), ?_⟩⟩
  rw [State.advance_pos_toNat (hn h)]
  exact Nat.le_add_right _ _

theorem Reached.advance_one {b : Byte} (ho : s.isOpen = false) (hp : s.peek = .byte b) : Reached s (s.advance 1) :=
  Reached.advance ho fun h => (h.read_of_peek hp).1

end

/-- Where a procedure ends, with a value or with a raise, the state satisfies `P`; a raise names a cause. -/
def Proc.Leads {α : Type} (P : State → Prop) (p : Proc α) : Prop :=
  match p with
  | .done _ t => P t
  | .raised c t => P t ∧ c ≠ .none
  | .fault _ => True

theorem ReaderOnly.leads {α : Type} {s : State} {p : Proc α} (h : ReaderOnly s p) : p.Leads (SameButReader s) := by
  cases p with
  | done a t => exact h
  | raised c t => exact ⟨h.1, by rcases h.2 with rfl | rfl <;> decide⟩
  | fault f => trivial

theorem PosOnly.leads {α : Type} {s : State} {p : Proc α} (h : PosOnly s p) : p.Leads (OnlyPos s) := by
  cases p with
  | done a t => exact h
  | raised c t => exact ⟨h.1, by rcases h.2 with rfl | rfl <;> decide⟩
  | fault f => trivial

theorem ReaderOnly.done_isOpen {α : Type} {s t : State} {p : Proc α} {a : α} (h : ReaderOnly s p)
    (hp : p = .done a t) : t.isOpen = s.isOpen := by
  subst hp
  exact SameButReader.isOpen h

theorem PosOnly.done_isOpen {α : Type} {s t : State} {p : Proc α} {a : α} (h : PosOnly s p)
    (hp : p = .done a t) : t.isOpen = s.isOpen := by
  subst hp
  exact (show OnlyPos s t from h) ▸ rfl

theorem Reached.leads {α : Type} {s t : State} {p : Proc α} (hst : Reached s t) (hp : p.Leads (Reached t)) :
    p.Leads (Reached s) := by
  cases p with
  | done a u => exact hst.trans hp
  | raised c u => exact ⟨hst.trans hp.1, hp.2⟩
  | fault f => trivial

/-- Procedures in sequence: what the first part leads to must suffice where it raises, and be taken further where it ends. -/
theorem Proc.Leads.bind {α β : Type} {P Q : State → Prop} {p : Proc α} {k : α → State → Proc β} (hp : p.Leads P)
    (hPQ : ∀ t, P t → Q t) (hk : ∀ a t, p = .done a t → P t → (k a t).Leads Q) : (p.bind k).Leads Q := by
  cases p with
  | done a t => exact hk a t rfl hp
  | raised c t => exact ⟨hPQ t hp.1, hp.2⟩
  | fault f => trivial

theorem Proc.Leads.andThen {α β : Type} {s : State} {p : Proc α} {k : α → State → Proc β} (hp : p.Leads (Reached s))
    (hk : ∀ a t, p = .done a t → (k a t).Leads (Reached t)) : (p.bind k).Leads (Reached s) :=
  hp.bind (fun _ => id) fun a t ht hst => Reached.leads hst (hk a t ht)

theorem Proc.Leads.and {α : Type} {P Q : State → Prop} {p : Proc α} (hp : p.Leads P) (hq : p.Leads Q) :
    p.Leads fun t => P t ∧ Q t := by
  cases p with
  | done a t => exact ⟨hp, hq⟩
  | raised c t => exact ⟨⟨hp.1, hq.1⟩, hp.2⟩
  | fault f => trivial

section
variable {s : State}

theorem takeBit_leads (ho : s.isOpen = true) : (takeBit s).Leads (Reached s) := by
  rcases takeBit_cases s with ⟨_, _, h⟩ | ⟨b, _, hp, h⟩ | ⟨_, h⟩ | ⟨_, _, h⟩ <;> rw [h]
  · exact Reached.refl s
  · exact (Reached.pullByte ho hp).trans (Reached.shiftBit ho)
  · exact Reached.shiftBit ho
  · trivial

theorem endOfView_leads : (endOfView s).Leads (Reached s) := by
  rcases endOfView_cases s with ⟨_, h⟩ | ⟨_, h⟩ <;> rw [h]
  · exact Reached.refl s
  · exact ⟨Reached.refl s, by decide⟩

theorem descend_leads (b : Bool) (ho : s.isOpen = true) : (descend b s).Leads (Reached s) := by
  rcases descend_cases b s with ⟨i, hi, h⟩ | ⟨_, h⟩ | ⟨sym, _, _, h⟩ <;> rw [h]
  · exact Reached.countBit ho hi
  · exact ⟨Reached.toRoot s, by decide⟩
  · exact Reached.toRoot s

theorem bitStep_leads (ho : s.isOpen = true) : (bitStep s).Leads (Reached s) :=
  (takeBit_leads ho).andThen fun bit t ht => by
    cases bit with
    | none => exact endOfView_leads
    | some b => exact descend_leads b (((takeBit_readerOnly s).done_isOpen ht).trans ho)

theorem codeStep_leads (c : Bool) (ho : s.isOpen = true) : (codeStep c s).Leads (Reached s) :=
  (takeBit_leads ho).andThen fun bit t ht => by
    cases bit with
    | none => exact endOfView_leads
    | some _ => exact descend_leads c (((takeBit_readerOnly s).done_isOpen ht).trans ho)

theorem bitLoop_leads (n : Nat) (ho : s.isOpen = true) : (bitLoop n s).Leads (Reached s) := by
  induction n generalizing s with
  | zero => trivial
  | succ n ih =>
    refine (bitStep_leads ho).andThen fun r t ht => ?_
    cases r with
    | goOn => exact ih (((bitStep_readerOnly s).done_isOpen ht).trans ho)
    | symbol v => exact Reached.refl t
    | atEnd => exact Reached.refl t

theorem readNext_leads (ho : s.isOpen = true) : (readNext s).Leads (Reached s) := bitLoop_leads _ ho

theorem walkCode_leads (code : List Bool) (ho : s.isOpen = true) : (walkCode code s).Leads (Reached s) := by
  induction code generalizing s with
  | nil => exact readNext_leads ho
  | cons c cs ih =>
    refine (codeStep_leads c ho).andThen fun r t ht => ?_
    cases r with
    | goOn => exact ih (((codeStep_readerOnly c s).done_isOpen ht).trans ho)
    | symbol v => exact Reached.refl t
    | atEnd => exact Reached.refl t

theorem intLoop_leads (fuel acc shift count : Nat) (ho : s.isOpen = false) :
    (intLoop fuel acc shift count s).Leads (Reached s) := by
  induction fuel generalizing acc shift count s with
  | zero =>
    unfold intLoop
    cases s.peek with
    | endMarker => exact ⟨Reached.refl s, by decide⟩
    | byte b => trivial
    | missing => trivial
  | succ fuel ih =>
    unfold intLoop
    cases hp : s.peek with
    | endMarker => exact ⟨Reached.refl s, by decide⟩
    | missing => trivial
    | byte b =>
      have hone := Reached.advance_one ho hp
      dsimp only
      split
      · exact ⟨hone, by decide⟩
      · split
        · exact hone.leads (ih _ _ _ ho)
        · exact hone

theorem intCore_leads (n : Nat) (ho : s.isOpen = false) : (intCore n s).Leads (Reached s) := by
  unfold intCore
  cases hp : s.peek with
  | endMarker => exact ⟨Reached.refl s, by decide⟩
  | missing => trivial
  | byte b =>
    have hone := Reached.advance_one ho hp
    dsimp only
    split
    · exact hone
    · exact hone.leads (intLoop_leads _ _ _ _ ho)

theorem openContext_leads (len : Nat) : (openContext len s).Leads (Reached s) := by
  rcases openContext_cases len s with ⟨_, h⟩ | ⟨hl, h⟩ <;> rw [h]
  · exact ⟨Reached.refl s, by decide⟩
  · exact Reached.openView hl

theorem bodyLoop_leads (n : Nat) (ho : s.isOpen = true) : (bodyLoop n s).Leads (Reached s) := by
  induction n generalizing s with
  | zero => exact Reached.refl s
  | succ n ih =>
    refine (readNext_leads ho).andThen fun r t ht => ?_
    cases r with
    | none => exact Reached.refl t
    | some v => exact (Reached.outAppend t v).leads (ih (((readNext_readerOnly s).done_isOpen ht).trans ho))

theorem bodyLoop_done_isOpen {n : Nat} {t : State} (h : bodyLoop n s = .done () t) : t.isOpen = s.isOpen := by
  rcases bodyLoop_cases n s with ⟨u, hu, hs, _⟩ | ⟨c, u, hu, _⟩ | ⟨f, hf⟩
  · rw [hu] at h
    cases h
    exact hs.isOpen
  · rw [hu] at h
    cases h
  · rw [hf] at h
    cases h

theorem confirmEnd_leads (ho : s.isOpen = true) : (confirmEnd s).Leads (Reached s) :=
  (readNext_leads ho).andThen fun r t _ => by
    cases r with
    | none => exact Reached.closeContext t
    | some v => exact ⟨Reached.refl t, by decide⟩

theorem openContext_done_isOpen {len : Nat} {t : State} (h : openContext len s = .done () t) : t.isOpen = true := by
  rcases openContext_cases len s with ⟨_, he⟩ | ⟨_, he⟩ <;> rw [he] at h <;> cases h
  rfl

theorem hufBody_leads (len : Nat) : (hufBody len s).Leads (Reached s) :=
  (openContext_leads len).andThen fun _ t ht =>
    have ho : t.isOpen = true := openContext_done_isOpen ht
    (Reached.clearOut t).leads <| (bodyLoop_leads _ (s := t.clearOut) ho).andThen fun _ _ hu =>
      confirmEnd_leads ((bodyLoop_done_isOpen hu).trans ho)

/-- A raw body: STR_TRUNCATED and nothing changed, or `pos` after the body with OUT extended (R164). -/
theorem rawBody_cases (len : Nat) (s : State) :
    (s.bytesLeft < len ∧ rawBody len s = .raised .strTruncated s) ∨
    (len ≤ s.bytesLeft ∧ ∃ out, rawBody len s = .done () ({ s with out := out }.advance len)) ∨
    ∃ f, rawBody len s = .fault f := by
  unfold rawBody
  split
  · next hl => exact .inl ⟨hl, rfl⟩
  · next hl =>
    cases hc : copyLoop len s.pos.toNat s with
    | done a t => exact .inr (.inl ⟨by omega, t.out, by rw [Proc.bind_done, copyLoop_done hc]⟩)
    | raised c t => exact absurd hc copyLoop_not_raised
    | fault f => exact .inr (.inr ⟨f, rfl⟩)

theorem rawBody_leads (len : Nat) (ho : s.isOpen = false) : (rawBody len s).Leads (Reached s) := by
  rcases rawBody_cases len s with ⟨_, h⟩ | ⟨hl, out, h⟩ | ⟨f, h⟩ <;> rw [h]
  · exact ⟨Reached.refl s, by decide⟩
  · have hout : Reached s { s with out := out } :=
      ⟨rfl, rfl, rfl, rfl, rfl, rfl, fun h => ⟨h.withOthers, Nat.le_refl _⟩⟩
    refine hout.trans (Reached.advance ho fun h => ?_)
    have := h.view.posLim
    unfold State.bytesLeft at hl
    dsimp only at this ⊢
    omega
  · trivial

theorem stringField_leads (b : Byte) (ho : s.isOpen = false) : (stringField b s).Leads (Reached s) :=
  (intCore_leads _ ho).andThen fun r t ht => by
    have ho' : t.isOpen = false := ((intCore_posOnly _ s).done_isOpen ht).trans ho
    have hbody : (if huffmanFlag b then hufBody r.1 t else rawBody r.1 t).Leads (Reached t) := by
      split
      · exact hufBody_leads r.1
      · exact rawBody_leads r.1 ho'
    exact hbody.andThen fun _ u _ => Reached.refl u

end

/-! ### How a command ends -/

/-- The results that a command without an error writes (R34). -/
structure ResultOk (kind : ResultKind) (val cnt : Nat) : Prop where
  notError : kind ≠ .error
  zeros : kind = .none ∨ kind = .streamEnd → val = 0 ∧ cnt = 0
  symbol : kind = .symbol → val < 256 ∧ cnt = 0

/-- A command whose procedures got to `u` ends in `t`: refused (R205), with the error entry (R204), or with a result. -/
inductive Ends (u : State) : State → Prop where
  | refused (he : u.err = true) : Ends u u.refuseCommand
  | raised {c : Cause} (hc : c ≠ .none) : Ends u (u.raiseError c)
  | result {kind : ResultKind} {val cnt : Nat} (he : u.err = false) (hr : ResultOk kind val cnt) :
    Ends u (u.setResult kind val cnt)

/-- Everything but OUT, the result and the error registers is the same: the frame of the end of a command. -/
structure SameButResult (u t : State) : Prop where
  pos : t.pos = u.pos
  lim : t.lim = u.lim
  isOpen : t.isOpen = u.isOpen
  cur : t.cur = u.cur
  mask : t.mask = u.mask
  node : t.node = u.node
  tail : t.tail = u.tail
  ones : t.ones = u.ones
  h : t.h = u.h
  arg : t.arg = u.arg
  inp : t.inp = u.inp
  hostq : t.hostq = u.hostq

section
variable {s t u : State}

theorem Ends.value (he : u.err = false) (v n : Nat) : Ends u (u.setResult .value v n) :=
  .result he ⟨by decide, by simp, by simp⟩

theorem Ends.string (he : u.err = false) (v n : Nat) : Ends u (u.setResult .string v n) :=
  .result he ⟨by decide, by simp, by simp⟩

theorem Ends.noResult (he : u.err = false) : Ends u (u.setResult .none 0 0) :=
  .result he ⟨by decide, fun _ => ⟨rfl, rfl⟩, by simp⟩

theorem Ends.deliverSymbol (he : u.err = false) (r : Option Byte) : Ends u (deliverSymbol r u) := by
  rcases deliverSymbol_cases r u with ⟨v, _, h⟩ | ⟨_, h⟩ <;> rw [h]
  · exact .result he ⟨by decide, by simp, fun _ => ⟨v.isLt, rfl⟩⟩
  · exact .result he ⟨by decide, fun _ => ⟨rfl, rfl⟩, by simp⟩

theorem Ends.frame (h : Ends u t) : SameButResult u t := by
  cases h <;> exact ⟨rfl, rfl, rfl, rfl, rfl, rfl, rfl, rfl, rfl, rfl, rfl, rfl⟩

/-- Without an error the end of a command leaves OUT and the error registers unchanged too. -/
theorem Ends.frame_of_ok (h : Ends u t) (ht : t.err = false) : t.out = u.out ∧ u.err = false ∧ t.cause = u.cause := by
  cases h with
  | refused he => exact absurd ht (by simp [he])
  | raised hc => cases ht
  | result he hr => exact ⟨rfl, he, rfl⟩

/-- A command that was not refused ends within the invariants if its procedures did. -/
theorem Ends.inv (h : Ends u t) (hu : u.ReaderInv) (he : u.err = false) (hc : u.cause = .none) : t.Inv := by
  have hreader : t.ReaderInv := by cases h <;> exact hu.withOthers
  obtain ⟨hview, hclosed, hhot, hcur, hpull, htail⟩ := hreader
  cases h with
  | refused he' => simp [he] at he'
  | raised hne =>
    exact ⟨hview, hclosed, hhot, hcur, hpull, htail, by simpa using hne, by simp, by simp, by simp, by simp⟩
  | @result kind val cnt _ hr =>
    refine ⟨hview, hclosed, hhot, hcur, hpull, htail, by simp [he, hc], by simp [he, hr.notError], by simp [he],
      fun hk => ?_, fun hk => ?_⟩
    · obtain ⟨hv, hn⟩ := hr.zeros hk
      simp [hv, hn]
    · obtain ⟨hv, hn⟩ := hr.symbol hk
      simp only [State.setResult_rVal, State.setResult_rCnt, BitVec.toNat_ofNat, hn]
      exact ⟨by omega, rfl⟩

/-- The state of a refused command (R205) is within the invariants. -/
theorem State.Inv.refuseCommand (hs : s.Inv) (he : s.err = true) : s.refuseCommand.Inv := by
  obtain ⟨hview, hclosed, hhot, hcur, hpull, htail⟩ : s.refuseCommand.ReaderInv :=
    hs.readerInv.withOthers
  have hcause := hs.causeErr
  obtain ⟨hout, _⟩ := hs.errEmpty he
  exact ⟨hview, hclosed, hhot, hcur, hpull, htail, hcause, by simp [he], fun _ => ⟨hout, rfl, rfl⟩, by simp, by simp⟩

/-- A procedure that keeps `err = 0`, committed, is a command's end at the state it led to. -/
theorem Proc.Leads.commit_ends {α : Type} {P : State → Prop} {p : Proc α} {g : α → State → State}
    (hp : p.Leads P) (he : ∀ u, P u → u.err = false) (hg : ∀ a u, u.err = false → Ends u (g a u))
    (h : p.commit g = .next t) : ∃ u, P u ∧ Ends u t := by
  obtain ⟨a, u, rfl, rfl⟩ | ⟨c, u, rfl, rfl⟩ := Proc.commit_next h
  · exact ⟨u, hp, hg a u (he u hp)⟩
  · exact ⟨u, hp.1, .raised hp.2⟩

end

/-- Every instruction is refused while `err = 1` (R205). -/
theorem exec_of_err {s : State} (he : s.err = true) (i : Instr) : exec i s = .next s.refuseCommand := by
  rcases instr_cases i with ⟨n, rfl⟩ | rfl | rfl | rfl | rfl | rfl | ⟨r, hr, rfl⟩
  · exact (unlessError_of_err he _ : execDecint n s = _)
  · exact (unlessError_of_err he _ : execDecstr s = _)
  · exact (unlessError_of_err he _ : execDechuf s = _)
  · exact (unlessError_of_err he _ : execBropen s = _)
  · exact (unlessError_of_err he _ : execRdsym s = _)
  · exact (unlessError_of_err he _ : execBrclose s = _)
  · exact (exec_row hr s).trans (unlessError_of_err he _)

section
variable {s t : State}

/-- To say how an instruction ends it is enough to say it while `err = 0`; otherwise it is refused where it started. -/
theorem ends_of_ok {i : Instr} {P : State → Prop} (h : exec i s = .next t) (hs : P s)
    (hok : s.err = false → ∃ u, P u ∧ Ends u t) : ∃ u, P u ∧ Ends u t := by
  cases he : s.err with
  | false => exact hok he
  | true =>
    rw [exec_of_err he] at h
    cases h
    exact ⟨s, hs, .refused he⟩

theorem decint_ends {n : Nat} (h : exec (.decint n) s = .next t) :
    ∃ u, (Reached s u ∧ OnlyPos s u) ∧ Ends u t := by
  have hs : Reached s s ∧ OnlyPos s s := ⟨Reached.refl s, rfl⟩
  refine ends_of_ok h hs fun he => ?_
  rw [exec_decint_of_ok he] at h
  split at h
  · cases h
    exact ⟨s, hs, .raised (by decide)⟩
  · next ho =>
    split at h
    · exact ((intCore_leads n (by simpa using ho)).and (intCore_posOnly n s).leads).commit_ends
        (fun _ hu => hu.1.err.trans he) (fun r _ hu => .value hu r.1 r.2) h
    · cases h
      exact ⟨s, hs, .raised (by decide)⟩

/-- A read of a symbol inside a context, committed; outside it the command is illegal. Shared by RDSYM and the code words. -/
theorem read_ends {p : Proc (Option Byte)} (he : s.err = false) (hp : s.isOpen = true → p.Leads (Reached s))
    (hr : ReaderOnly s p)
    (h : (if s.isOpen then p.commit deliverSymbol else .next (s.raiseError .illegalCommand)) = .next t) :
    ∃ u, (Reached s u ∧ SameButReader s u) ∧ Ends u t := by
  split at h
  · next ho =>
    exact ((hp ho).and hr.leads).commit_ends (fun _ hu => hu.1.err.trans he)
      (fun r _ hu => .deliverSymbol hu r) h
  · cases h
    exact ⟨s, ⟨Reached.refl s, SameButReader.refl s⟩, .raised (by decide)⟩

theorem rdsym_ends (h : exec .rdsym s = .next t) : ∃ u, (Reached s u ∧ SameButReader s u) ∧ Ends u t := by
  refine ends_of_ok h ⟨Reached.refl s, SameButReader.refl s⟩ fun he => ?_
  rw [exec_rdsym_of_ok he] at h
  exact read_ends he readNext_leads (readNext_readerOnly s) h

theorem row_ends {r : HufRow} (hr : r ∈ hufRows) (h : exec r.instr s = .next t) :
    ∃ u, (Reached s u ∧ SameButReader s u) ∧ Ends u t := by
  refine ends_of_ok h ⟨Reached.refl s, SameButReader.refl s⟩ fun he => ?_
  rw [exec_row_of_ok he hr] at h
  exact read_ends he (walkCode_leads r.bits) (walkCode_readerOnly r.bits s) h

theorem dechuf_ends (h : exec .dechuf s = .next t) : ∃ u, Reached s u ∧ Ends u t := by
  refine ends_of_ok h (Reached.refl s) fun he => ?_
  rw [exec_dechuf_of_ok he] at h
  split at h
  · cases h
    exact ⟨s, Reached.refl s, .raised (by decide)⟩
  · exact ((Reached.clearOut s).leads (hufBody_leads (byteLength s))).commit_ends (fun _ hu => hu.err.trans he)
      (fun _ _ hu => .string hu _ _) h

theorem bropen_ends (h : exec .bropen s = .next t) : ∃ u, Reached s u ∧ Ends u t := by
  refine ends_of_ok h (Reached.refl s) fun he => ?_
  rw [exec_bropen_of_ok he] at h
  split at h
  · cases h
    exact ⟨s, Reached.refl s, .raised (by decide)⟩
  · exact (openContext_leads (byteLength s)).commit_ends (fun _ hu => hu.err.trans he) (fun _ _ hu => .noResult hu) h

theorem brclose_ends (h : exec .brclose s = .next t) : ∃ u, Reached s u ∧ Ends u t := by
  refine ends_of_ok h (Reached.refl s) fun he => ?_
  rw [exec_brclose_of_ok he] at h
  split at h <;> cases h
  · exact ⟨s.closeContext, Reached.closeContext s, .noResult he⟩
  · exact ⟨s, Reached.refl s, .raised (by decide)⟩

/-- DECSTR on an empty view (R162). -/
theorem exec_decstr_of_end (he : s.err = false) (ho : s.isOpen = false) (hp : s.peek = .endMarker) :
    exec .decstr s = .next (s.raiseError .intTruncated) := by
  have hp' : s.clearOut.peek = .endMarker := hp
  rw [exec_decstr_of_ok he, ho, hp']
  rfl

/-- DECSTR on a field whose first byte is `b`: H is latched, then the field decoded (R31, R162). -/
theorem exec_decstr_of_byte {b : Byte} (he : s.err = false) (ho : s.isOpen = false) (hp : s.peek = .byte b) :
    exec .decstr s = (stringField b (s.clearOut.setH (huffmanFlag b))).commit
      fun r u => u.setResult .string r.1 (r.2 + r.1) := by
  have hp' : s.clearOut.peek = .byte b := hp
  rw [exec_decstr_of_ok he, ho, hp']
  rfl

/-- Outside a context DECSTR raises on an empty view, or decodes a field with H latched from its first byte. -/
theorem decstr_ends_closed (he : s.err = false) (ho : s.isOpen = false) (h : exec .decstr s = .next t) :
    (s.peek = .endMarker ∧ t = s.raiseError .intTruncated) ∨
    ∃ b u, s.peek = .byte b ∧ Reached (s.setH (huffmanFlag b)) u ∧ Ends u t := by
  cases hp : s.peek with
  | endMarker =>
    rw [exec_decstr_of_end he ho hp] at h
    cases h
    exact .inl ⟨rfl, rfl⟩
  | byte b =>
    rw [exec_decstr_of_byte he ho hp] at h
    obtain ⟨u, hu, hend⟩ := ((Reached.clearOut (s.setH (huffmanFlag b))).leads
      (stringField_leads b (s := s.clearOut.setH (huffmanFlag b)) ho)).commit_ends (fun _ hu => hu.err.trans he)
        (fun _ _ hu => .string hu _ _) h
    exact .inr ⟨b, u, rfl, hu, hend⟩
  | missing =>
    have hp' : s.clearOut.peek = .missing := hp
    rw [exec_decstr_of_ok he, ho, hp'] at h
    cases h

theorem decstr_ends (h : exec .decstr s = .next t) : ∃ u, (∃ flag, Reached (s.setH flag) u) ∧ Ends u t := by
  have hs : ∃ flag, Reached (s.setH flag) s := ⟨s.h, Reached.refl s⟩
  refine ends_of_ok h hs fun he => ?_
  cases ho : s.isOpen with
  | true =>
    rw [exec_decstr_of_ok he, ho] at h
    cases h
    exact ⟨s, hs, .raised (by decide)⟩
  | false =>
    obtain ⟨_, rfl⟩ | ⟨b, u, _, hu, hend⟩ := decstr_ends_closed he ho h
    · exact ⟨s, hs, .raised (by decide)⟩
    · exact ⟨u, ⟨huffmanFlag b, hu⟩, hend⟩

/-- Every instruction: its procedures start from the state itself, H perhaps latched, and the command ends where they got. -/
theorem exec_ends {i : Instr} (h : exec i s = .next t) : ∃ u, (∃ flag, Reached (s.setH flag) u) ∧ Ends u t := by
  have same {u : State} (hu : Reached s u) : ∃ flag, Reached (s.setH flag) u := ⟨s.h, hu⟩
  rcases instr_cases i with ⟨n, rfl⟩ | rfl | rfl | rfl | rfl | rfl | ⟨r, hr, rfl⟩
  · obtain ⟨u, ⟨hu, _⟩, hend⟩ := decint_ends h
    exact ⟨u, same hu, hend⟩
  · exact decstr_ends h
  · obtain ⟨u, hu, hend⟩ := dechuf_ends h
    exact ⟨u, same hu, hend⟩
  · obtain ⟨u, hu, hend⟩ := bropen_ends h
    exact ⟨u, same hu, hend⟩
  · obtain ⟨u, ⟨hu, _⟩, hend⟩ := rdsym_ends h
    exact ⟨u, same hu, hend⟩
  · obtain ⟨u, hu, hend⟩ := brclose_ends h
    exact ⟨u, same hu, hend⟩
  · obtain ⟨u, ⟨hu, _⟩, hend⟩ := row_ends hr h
    exact ⟨u, same hu, hend⟩

/-- No instruction changes what is the host's: ARG, the list of actions, the input. -/
theorem exec_keeps_host {i : Instr} (h : exec i s = .next t) :
    t.arg = s.arg ∧ t.hostq = s.hostq ∧ t.inp = s.inp := by
  obtain ⟨u, ⟨flag, hu⟩, hend⟩ := exec_ends h
  exact ⟨hend.frame.arg.trans hu.arg, hend.frame.hostq.trans hu.hostq, hend.frame.inp.trans hu.inp⟩

/-- From a state within the invariants an instruction ends within them, `pos` where it was or further. -/
theorem exec_keeps_inv {i : Instr} (hs : s.Inv) (h : exec i s = .next t) :
    t.Inv ∧ s.pos.toNat ≤ t.pos.toNat := by
  cases he : s.err with
  | true =>
    rw [exec_of_err he] at h
    cases h
    exact ⟨hs.refuseCommand he, Nat.le_refl _⟩
  | false =>
    obtain ⟨u, ⟨flag, hu⟩, hend⟩ := exec_ends h
    obtain ⟨hinv, hpos⟩ := hu.safe (hs.readerInv.withOthers)
    refine ⟨hend.inv hinv (hu.err.trans he) (hu.cause.trans (hs.causeErr.2 he)), ?_⟩
    rw [hend.frame.pos]
    exact hpos

/-! ### Steps of the host -/

theorem step_of_action {a : HostAction} {rest : List HostAction} (h : s.hostq = a :: rest) :
    step s = serve a (s.withQueue rest) := by
  rw [step, serveNext, h]

theorem step_of_idle (h : s.hostq = []) : step s = .next s := by
  rw [step, serveNext, h]

theorem serve_reset {input : List Byte} (h : input.length < 2 ^ 64) :
    serve (.reset input) s = .next (State.resetWith input s.hostq) :=
  if_pos h

theorem serve_reset_of_long {input : List Byte} (h : ¬ input.length < 2 ^ 64) :
    serve (.reset input) s = .refused .inputTooLong :=
  if_neg h

/-- The invariants do not speak of what the host owns beside the input. -/
theorem State.Inv.withHost {arg : Word64} {q : List HostAction} (hs : s.Inv) :
    State.Inv { s with arg := arg, hostq := q } := by
  obtain ⟨hview, hclosed, hhot, hcur, hpull, htail⟩ : State.ReaderInv { s with arg := arg, hostq := q } :=
    hs.readerInv.withOthers
  exact ⟨hview, hclosed, hhot, hcur, hpull, htail, hs.causeErr, hs.kindErr, hs.errEmpty, hs.zeroKinds, hs.symbolKind⟩

/-- The state after reset is within the invariants (R39). -/
theorem State.resetWith_inv {input : List Byte} (h : input.length < 2 ^ 64) (q : List HostAction) :
    (State.resetWith input q).Inv := by
  have hreader : (State.resetWith input q).ReaderInv :=
    ⟨⟨Memory.ofBytes_wf input h, Nat.zero_le _, Nat.le_refl _⟩, fun _ => ⟨rfl, rfl, rfl, rfl, rfl, rfl⟩, .inl rfl,
      fun _ => rfl, fun hm => absurd rfl hm, [], rfl, rfl, rfl⟩
  exact (Ends.noResult rfl).inv hreader rfl rfl

/-- A reserved command word: refused, or ILLEGAL_COMMAND (R92, R205). -/
theorem execReserved_keeps_inv (hs : s.Inv) (h : execReserved s = .next t) :
    t.Inv ∧ s.pos.toNat ≤ t.pos.toNat := by
  cases he : s.err with
  | true =>
    rw [execReserved, unlessError_of_err he] at h
    cases h
    exact ⟨hs.refuseCommand he, Nat.le_refl _⟩
  | false =>
    rw [execReserved, unlessError_of_ok he] at h
    cases h
    exact ⟨(Ends.raised (by decide)).inv hs.readerInv he (hs.causeErr.2 he), Nat.le_refl _⟩

theorem runCommand_keeps_inv {w : Byte} (hs : s.Inv) (h : runCommand w s = .next t) :
    t.Inv ∧ s.pos.toNat ≤ t.pos.toNat := by
  unfold runCommand at h
  split at h
  · exact exec_keeps_inv hs h
  · exact execReserved_keeps_inv hs h

/-- Every host action keeps the invariants, and every one but a reset leaves `pos` where it was or further. -/
theorem serve_keeps_inv {a : HostAction} (hs : s.Inv) (h : serve a s = .next t) :
    t.Inv ∧ ((∀ input, a ≠ .reset input) → s.pos.toNat ≤ t.pos.toNat) := by
  cases a with
  | writeCmd w =>
    obtain ⟨ht, hpos⟩ := runCommand_keeps_inv hs h
    exact ⟨ht, fun _ => hpos⟩
  | writeArg v =>
    cases h
    exact ⟨hs.withHost, fun _ => Nat.le_refl _⟩
  | writeReadOnly r v =>
    cases h
    exact ⟨hs, fun _ => Nat.le_refl _⟩
  | reset input =>
    by_cases hl : input.length < 2 ^ 64
    · rw [serve_reset hl] at h
      cases h
      exact ⟨State.resetWith_inv hl _, fun hne => absurd rfl (hne input)⟩
    · rw [serve_reset_of_long hl] at h
      cases h

/-- Every step keeps the invariants, and every one but a reset leaves `pos` where it was or further. -/
theorem step_keeps_inv (hs : s.Inv) (h : step s = .next t) :
    t.Inv ∧ (s.noResetNext → s.pos.toNat ≤ t.pos.toNat) := by
  cases hq : s.hostq with
  | nil =>
    rw [step_of_idle hq] at h
    cases h
    exact ⟨hs, fun _ => Nat.le_refl _⟩
  | cons a rest =>
    rw [step_of_action hq] at h
    have hs' : (s.withQueue rest).Inv := hs.withHost
    obtain ⟨ht, hpos⟩ := serve_keeps_inv hs' h
    refine ⟨ht, fun hno => hpos fun input ha => hno input ?_⟩
    rw [hq, ha, List.head?_cons]

end

/-- Settles O56: inside a command the invariants of the reader hold throughout (`Reached`), and each way to end a command
restores those of the result (`Ends.inv`). -/
theorem everyStepKeepsTheInvariants : Obligations.EveryStepKeepsTheInvariants :=
  fun _ _ hs h => (step_keeps_inv hs h).1

/-- Settles O58, by the same facts about `pos`. -/
theorem posNeverMovesBackwards : Obligations.PosNeverMovesBackwards :=
  fun _ _ hs hno h => (step_keeps_inv hs h).2 hno

/-- Settles O51: the procedures of DECSTR keep the H that was latched before them. -/
theorem decstrLatchesTheHuffmanFlag : Obligations.DecstrLatchesTheHuffmanFlag := by
  intro s he ho
  refine ⟨fun hend => exec_decstr_of_end he ho (if_pos hend), fun b t hne hb h => ?_⟩
  have hp : s.peek = .byte b := by simp [State.peek, hne, hb]
  obtain ⟨hp', _⟩ | ⟨b', u, hp', hu, hend⟩ := decstr_ends_closed he ho h
  · simp [hp] at hp'
  · rw [hp] at hp'
    cases hp'
    exact hend.frame.h.trans hu.h

/-- Settles O52. -/
theorem noInstructionChangesInputOrArg : Obligations.NoInstructionChangesInputOrArg := by
  intro i s t h
  obtain ⟨harg, hq, hinp⟩ := exec_keeps_host h
  exact ⟨harg, hq, hinp, fun a => by rw [hinp]⟩

theorem decint_frame {n : Nat} {s t : State} (h : exec (.decint n) s = .next t) :
    t.lim = s.lim ∧ t.isOpen = s.isOpen ∧ t.cur = s.cur ∧ t.mask = s.mask ∧ t.node = s.node ∧ t.tail = s.tail ∧
      t.ones = s.ones ∧ t.h = s.h ∧ (t.err = false → t.out = s.out ∧ s.err = false ∧ t.cause = s.cause) := by
  obtain ⟨u, ⟨_, hpos⟩, hend⟩ := decint_ends h
  obtain ⟨p, rfl⟩ : ∃ p, u = { s with pos := p } := ⟨_, hpos⟩
  have hf := hend.frame
  exact ⟨hf.lim, hf.isOpen, hf.cur, hf.mask, hf.node, hf.tail, hf.ones, hf.h, hend.frame_of_ok⟩

/-- What a command that changes only the reader leaves unchanged. -/
theorem Ends.read_frame {s t u : State} (hu : SameButReader s u) (hend : Ends u t) :
    t.lim = s.lim ∧ t.isOpen = s.isOpen ∧ t.h = s.h ∧
      (t.err = false → t.out = s.out ∧ s.err = false ∧ t.cause = s.cause) := by
  have hf := hend.frame
  refine ⟨hf.lim.trans hu.lim, hf.isOpen.trans hu.isOpen, hf.h.trans hu.h, fun ht => ?_⟩
  obtain ⟨hout, herr, hcause⟩ := hend.frame_of_ok ht
  exact ⟨hout.trans hu.out, hu.err.symm.trans herr, hcause.trans hu.cause⟩

/-- Settles O53: IntCore changes `pos` alone, a read changes `pos` and the reader alone. -/
theorem frameOfDecintAndReads : Obligations.FrameOfDecintAndReads := by
  refine fun s t => ⟨fun n h => decint_frame h, fun i hi h => ?_⟩
  obtain rfl | ⟨r, hr, rfl⟩ := hi
  · obtain ⟨u, ⟨_, hu⟩, hend⟩ := rdsym_ends h
    exact hend.read_frame hu
  · obtain ⟨u, ⟨_, hu⟩, hend⟩ := row_ends hr h
    exact hend.read_frame hu

/-! ### The context after a string -/

section
variable {s t : State}

/-- A sequence that ends with a value has had both its parts do so. -/
theorem Proc.bind_eq_done {α β : Type} {p : Proc α} {k : α → State → Proc β} {b : β} (h : p.bind k = .done b t) :
    ∃ a u, p = .done a u ∧ k a u = .done b t := by
  obtain h | ⟨_, _, _, hr⟩ | ⟨_, _, hf⟩ := Proc.bind_cases h
  · exact h
  · cases hr
  · cases hf

/-- A Huffman body that is decoded closes its context (R160). -/
theorem hufBody_done_isOpen {len : Nat} (h : hufBody len s = .done () t) : t.isOpen = false := by
  obtain ⟨_, _, _, hbody⟩ := Proc.bind_eq_done h
  obtain ⟨_, _, _, hconfirm⟩ := Proc.bind_eq_done hbody
  obtain ⟨r, _, _, hend⟩ := Proc.bind_eq_done hconfirm
  cases r <;> cases hend
  rfl

theorem rawBody_isOpen (len : Nat) (s : State) : (rawBody len s).Leads fun t => t.isOpen = s.isOpen := by
  rcases rawBody_cases len s with ⟨_, h⟩ | ⟨_, out, h⟩ | ⟨f, h⟩ <;> rw [h]
  · exact ⟨rfl, by decide⟩
  · rfl
  · trivial

/-- A raw field leaves the context alone, whether or not it succeeds (R162, R164). -/
theorem stringField_raw_isOpen {b : Byte} (hb : huffmanFlag b = false) (ho : s.isOpen = false) :
    (stringField b s).Leads fun t => t.isOpen = false := by
  have hopen : ∀ u, OnlyPos s u → u.isOpen = false := fun u hu => (congrArg State.isOpen hu).trans ho
  refine (intCore_posOnly _ s).leads.bind hopen fun r u _ hu => ?_
  rw [if_neg (by simp [hb])]
  have hbody := rawBody_isOpen r.1 u
  rw [hopen u hu] at hbody
  exact hbody.bind (fun _ => id) fun _ _ _ hw => hw

/-- A field that is decoded ends outside a context. -/
theorem stringField_done_isOpen {b : Byte} {r : Nat × Nat} (ho : s.isOpen = false) (h : stringField b s = .done r t) :
    t.isOpen = false := by
  cases hb : huffmanFlag b with
  | false =>
    have hraw := stringField_raw_isOpen hb ho
    rw [h] at hraw
    exact hraw
  | true =>
    obtain ⟨_, _, _, hrest⟩ := Proc.bind_eq_done h
    rw [if_pos hb] at hrest
    obtain ⟨_, _, hbody, hend⟩ := Proc.bind_eq_done hrest
    cases hend
    exact hufBody_done_isOpen hbody

/-- DECHUF that succeeds ends outside a context. -/
theorem dechuf_closes (he : s.err = false) (ho : s.isOpen = false) (h : exec .dechuf s = .next t)
    (ht : t.err = false) : t.isOpen = false := by
  rw [exec_dechuf_of_ok he, ho] at h
  obtain ⟨_, u, hu, rfl⟩ | ⟨c, u, _, rfl⟩ := Proc.commit_next h
  · have hto : u.isOpen = false := hufBody_done_isOpen hu
    exact hto
  · cases ht

/-- DECSTR that succeeds, or that ends with `H = 0`, ends outside a context. -/
theorem decstr_closes (he : s.err = false) (ho : s.isOpen = false) (h : exec .decstr s = .next t)
    (ht : t.err = false ∨ t.h = false) : t.isOpen = false := by
  obtain ⟨_, rfl⟩ | ⟨b, u, hp, hu, hend⟩ := decstr_ends_closed he ho h
  · exact ho
  · have hh : t.h = huffmanFlag b := hend.frame.h.trans hu.h
    rw [exec_decstr_of_byte he ho hp] at h
    obtain ⟨r, v, hv, rfl⟩ | ⟨c, v, hv, rfl⟩ := Proc.commit_next h
    · have hto : v.isOpen = false := stringField_done_isOpen (s := s.clearOut.setH (huffmanFlag b)) ho hv
      exact hto
    · have hraw : huffmanFlag b = false := by
        obtain ht | ht := ht
        · cases ht
        · exact hh.symm.trans ht
      have hleads := stringField_raw_isOpen (s := s.clearOut.setH (huffmanFlag b)) hraw ho
      rw [hv] at hleads
      exact hleads.1

/-- An instruction that starts and ends outside a context leaves the view and the reader: there the view is all of IN and the
reader is cleared. -/
theorem exec_closed_reader {i : Instr} (hs : s.Inv) (h : exec i s = .next t) (hso : s.isOpen = false)
    (hto : t.isOpen = false) :
    t.lim = s.lim ∧ t.cur = s.cur ∧ t.mask = s.mask ∧ t.node = s.node ∧ t.tail = s.tail ∧ t.ones = s.ones := by
  obtain ⟨ht, _⟩ := exec_keeps_inv hs h
  obtain ⟨_, _, hi⟩ := exec_keeps_host h
  obtain ⟨sl, sc, sm, sn, st, sone⟩ := hs.closed hso
  obtain ⟨tl, tc, tm, tn, tt, tone⟩ := ht.closed hto
  exact ⟨by rw [tl, sl, hi], tc.trans sc.symm, tm.trans sm.symm, tn.trans sn.symm, tt.trans st.symm,
    tone.trans sone.symm⟩

end

/-- Settles O54: where the command ends outside a context the invariants fix the view and the reader, so it is enough to know
that it does. -/
theorem frameOfStringCommands : Obligations.FrameOfStringCommands := by
  intro s t hs he ho
  refine ⟨fun h => ?_, fun i hi h ht => ?_, fun h hh => ?_⟩
  · obtain ⟨u, hu, hend⟩ := dechuf_ends h
    exact hend.frame.h.trans hu.h
  · have hto : t.isOpen = false := by
      obtain rfl | rfl := hi
      · exact dechuf_closes he ho h ht
      · exact decstr_closes he ho h (.inl ht)
    have hcause : t.cause = s.cause := ((exec_keeps_inv hs h).1.causeErr.2 ht).trans (hs.causeErr.2 he).symm
    obtain ⟨hlim, hcur, hmask, hnode, htail, hones⟩ := exec_closed_reader hs h ho hto
    exact ⟨hto, hlim, hcur, hmask, hnode, htail, hones, hcause⟩
  · have hto := decstr_closes he ho h (.inr hh)
    exact ⟨hto.trans ho.symm, exec_closed_reader hs h ho hto⟩

/-! ### The host's registers and reset -/

/-- Settles O13. -/
theorem hostWritesChangeArgOnly : Obligations.HostWritesChangeArgOnly :=
  fun _ _ => ⟨fun _ h => step_of_action h, fun _ _ h => step_of_action h⟩

/-- The parts of STATUS, with the widths they are put together from. -/
theorem appended_fields (kind : BitVec 3) (cause : BitVec 4) (h o e : Bool) (w : BitVec (6 + 3 + 1 + 1 + 4 + 1))
    (hw : w = 0#6 ++ kind ++ BitVec.ofBool h ++ BitVec.ofBool o ++ cause ++ BitVec.ofBool e) :
    w.getLsbD 0 = e ∧ w.extractLsb' 1 4 = cause ∧ w.getLsbD 5 = o ∧ w.getLsbD 6 = h ∧ w.extractLsb' 7 3 = kind ∧
    w.extractLsb' 10 6 = 0 := by
  subst hw
  simp (disch := decide) only [BitVec.getLsbD_append, BitVec.extractLsb'_append_eq_of_le,
    BitVec.extractLsb'_append_eq_of_add_le]
  simp

/-- The fields of STATUS (R37). -/
theorem statusWord_fields (s : State) :
    (statusWord s).getLsbD 0 = s.err ∧ (statusWord s).extractLsb' 1 4 = s.cause.code ∧
    (statusWord s).getLsbD 5 = s.isOpen ∧ (statusWord s).getLsbD 6 = s.h ∧
    (statusWord s).extractLsb' 7 3 = s.rKind.code ∧ (statusWord s).extractLsb' 10 6 = 0 :=
  appended_fields _ _ _ _ _ _ rfl

/-- Settles O14. -/
theorem hostRegistersShowTheState : Obligations.HostRegistersShowTheState := by
  refine ⟨rfl, rfl, rfl, rfl, rfl, rfl, rfl, rfl, rfl, rfl, rfl, rfl, rfl, rfl, rfl, rfl, rfl, rfl, rfl, rfl, rfl, rfl,
    rfl, fun s => ?_⟩
  obtain ⟨herr, hcause, hopen, hh, hkind, hzero⟩ := statusWord_fields s
  exact ⟨rfl, rfl, rfl, rfl, rfl, rfl, rfl, rfl, herr, hcause, hopen, hh, hkind, hzero, fun _ => rfl⟩

theorem Memory.ofBytes_len_toNat {bs : List Byte} (h : bs.length < 2 ^ 64) :
    (Memory.ofBytes bs).len.toNat = bs.length := by
  rw [Memory.ofBytes, BitVec.toNat_ofNat, Nat.mod_eq_of_lt h]

/-- The bytes presented are the bytes that are read. -/
theorem Memory.read_ofBytes {bs : List Byte} (h : bs.length < 2 ^ 64) (a : Nat) :
    (Memory.ofBytes bs).read a = bs[a]? := by
  have hlen := Memory.ofBytes_len_toNat h
  have hcell := cellAt_cellsFrom 0 bs a
  rw [Nat.zero_add] at hcell
  by_cases ha : a < bs.length
  · rw [Memory.read_some (hlen.symm ▸ ha), Memory.ofBytes, hcell, List.getElem?_eq_getElem ha, Option.getD_some]
  · rw [Memory.read, if_neg (hlen.symm ▸ ha), List.getElem?_eq_none (Nat.le_of_not_lt ha)]

/-- Settles O15. -/
theorem resetLeavesTheResetValues : Obligations.ResetLeavesTheResetValues := by
  intro s input h
  have hlen := Memory.ofBytes_len_toNat h
  exact ⟨_, serve_reset h, rfl, hlen, rfl, rfl, rfl, rfl, rfl, rfl, rfl, rfl, rfl, rfl, rfl, rfl, rfl, rfl, rfl, hlen,
    Memory.ofBytes_wf input h, Memory.read_ofBytes h⟩

/-- Settles O16. -/
theorem stateResetIsResetOnTheEmptyInput : Obligations.StateResetIsResetOnTheEmptyInput :=
  ⟨rfl, rfl, fun a => Memory.read_ofBytes (bs := []) (by decide) a⟩

/-- Settles O55: State.reset is a reset on the empty input. -/
theorem resetMeetsTheInvariants : Obligations.ResetMeetsTheInvariants :=
  State.resetWith_inv (input := []) (by decide) []

end Sys2Proof.Machine
end

section
/-!
The family of 20_memory.md. The next bit: a byte of the view that is pulled changes neither the unread bits nor the cursor, and
a pending bit is taken in one way (`State.Pending`). The end of the view: a state and the same state over another input
(`State.withInput`) that shows the same bytes below `lim` (`State.SameView`) take the same bits.
-/

namespace Sys2Proof.Machine

/-! ### The next bit of the view -/

/-- Bit `k` of the byte before `pos` is the next one to consume (R25, R26). -/
structure State.Pending (s : State) (k : Nat) : Prop where
  lt : k < 8
  mask : s.mask = 1#8 <<< k
  pulled : 1 ≤ s.pos.toNat
  cur : s.inp.read (s.pos.toNat - 1) = some s.cur

theorem oneHot_ne_zero {k : Nat} (hk : k < 8) : 1#8 <<< k ≠ 0#8 :=
  (by decide : ∀ k < 8, 1#8 <<< k ≠ 0#8) k hk

theorem unreadBits_oneHot {k : Nat} (hk : k < 8) : unreadBits (1#8 <<< k) = k + 1 :=
  (by decide : ∀ k < 8, unreadBits (1#8 <<< k) = k + 1) k hk

theorem nextMask_oneHot_zero : nextMask (1#8 <<< 0) = 0#8 := rfl

theorem nextMask_oneHot_succ {k : Nat} (hk : k + 1 < 8) : nextMask (1#8 <<< (k + 1)) = 1#8 <<< k :=
  (by decide : ∀ k < 7, nextMask (1#8 <<< (k + 1)) = 1#8 <<< k) k (by omega)

theorem nextCur_oneHot_zero (cur : Byte) : nextCur cur (1#8 <<< 0) = 0#8 := rfl

theorem nextCur_oneHot_succ {k : Nat} (hk : k + 1 < 8) (cur : Byte) : nextCur cur (1#8 <<< (k + 1)) = cur := by
  rw [nextCur, nextMask_oneHot_succ hk, if_neg (oneHot_ne_zero (by omega))]

theorem currentBit_oneHot {k : Nat} (hk : k < 8) (cur : Byte) : currentBit cur (1#8 <<< k) = cur.toNat.testBit k := by
  have hand : cur &&& 1#8 <<< k = if cur.getLsbD k then 1#8 <<< k else 0#8 := BitVec.and_twoPow cur k
  rw [BitVec.testBit_toNat, currentBit, hand]
  cases cur.getLsbD k <;> simp [oneHot_ne_zero hk]

section
variable {s : State} {k : Nat} {b : Byte}

/-- The pending bit is taken, and the cursor moves past it. -/
theorem takeBit_of_pending (h : s.Pending k) : takeBit s = .done (some (s.cur.toNat.testBit k)) s.shiftBit := by
  have hne : s.mask ≠ 0#8 := h.mask ▸ oneHot_ne_zero h.lt
  rw [takeBit, if_neg hne, h.mask, currentBit_oneHot h.lt]

/-- The pending bit is the first of the unread bits, and the rest are those after it (R64). -/
theorem State.Pending.viewBits (h : s.Pending k) : s.viewBits = s.cur.toNat.testBit k :: s.shiftBit.viewBits := by
  have hrest : codeBits k s.cur.toNat = codeBits (unreadBits s.shiftBit.mask) s.shiftBit.cur.toNat := by
    rw [State.shiftBit_mask, State.shiftBit_cur, h.mask]
    cases k with
    | zero => rfl
    | succ j =>
      have hj := h.lt
      rw [nextMask_oneHot_succ hj, nextCur_oneHot_succ hj, unreadBits_oneHot (by omega)]
  calc s.viewBits
      = codeBits (k + 1) s.cur.toNat ++ (s.inp.bytes s.pos.toNat s.bytesLeft).flatMap byteBits := by
        rw [State.viewBits, h.mask, unreadBits_oneHot h.lt]
    _ = s.cur.toNat.testBit k :: s.shiftBit.viewBits := by
        rw [codeBits, hrest]
        rfl

/-- After the pending bit the cursor is one bit further (R26, R30 (e)): at the byte boundary after bit 0, inside the byte
before `pos` otherwise. -/
theorem State.Pending.shiftBit_eq (h : s.Pending k) : s.shiftBit = s.atCursor (s.bitCursor + 1) := by
  obtain ⟨hlt, hmask, hpulled, hcur⟩ := h
  have hcursor : s.bitCursor + 1 = 8 * s.pos.toNat - k := by
    rw [State.bitCursor, hmask, unreadBits_oneHot hlt]
    omega
  have hpos : BitVec.ofNat 64 ((8 * s.pos.toNat - k + 7) / 8) = s.pos := by
    rw [show (8 * s.pos.toNat - k + 7) / 8 = s.pos.toNat by omega, BitVec.ofNat_toNat, BitVec.setWidth_eq]
  rw [hcursor, State.shiftBit, State.atCursor, hpos, hmask]
  cases k with
  | zero => rw [nextMask_oneHot_zero, nextCur_oneHot_zero, if_pos (by omega), if_pos (by omega)]
  | succ j =>
    have hoffset : (8 * s.pos.toNat - (j + 1)) % 8 = 7 - j := by omega
    have hbyte : (8 * s.pos.toNat - (j + 1)) / 8 = s.pos.toNat - 1 := by omega
    have hshift : 0x80#8 >>> (7 - j) = 1#8 <<< j := (by decide : ∀ j < 7, 0x80#8 >>> (7 - j) = 1#8 <<< j) j (by omega)
    rw [nextMask_oneHot_succ hlt, nextCur_oneHot_succ hlt, hoffset, hbyte, if_neg (by omega), if_neg (by omega), hcur,
      hshift, Option.getD_some]

/-- A byte pulled from the view is pending from bit 7 on. -/
theorem State.pullByte_pending (hlt : s.pos.toNat < s.lim.toNat) (hb : s.inp.read s.pos.toNat = some b) :
    (s.pullByte b).Pending 7 := by
  have hpos : (s.pullByte b).pos.toNat = s.pos.toNat + 1 := State.advance_pos_toNat hlt
  exact ⟨by decide, rfl, by omega, by rw [hpos]; exact hb⟩

theorem State.pullByte_unreadBits (s : State) (b : Byte) : unreadBits (s.pullByte b).mask = 8 :=
  unreadBits_oneHot (k := 7) (by decide)

/-- Pulling a byte consumes no bit: the unread bits are the same. -/
theorem State.pullByte_viewBits (hm : s.mask = 0#8) (hlt : s.pos.toNat < s.lim.toNat)
    (hb : s.inp.read s.pos.toNat = some b) : (s.pullByte b).viewBits = s.viewBits := by
  have hpos : (s.pullByte b).pos.toNat = s.pos.toNat + 1 := State.advance_pos_toNat hlt
  have hleft : s.bytesLeft = (s.pullByte b).bytesLeft + 1 := by
    simp only [State.bytesLeft, hpos, State.pullByte_lim]
    omega
  calc (s.pullByte b).viewBits
      = byteBits b ++ (s.inp.bytes (s.pos.toNat + 1) (s.pullByte b).bytesLeft).flatMap byteBits := by
        rw [State.viewBits, hpos, State.pullByte_unreadBits]
        rfl
    _ = s.viewBits := by
        rw [State.viewBits, hm, hleft, Memory.bytes_succ hb, List.flatMap_cons]
        rfl

/-- Pulling a byte does not move the cursor. -/
theorem State.pullByte_bitCursor (hm : s.mask = 0#8) (hlt : s.pos.toNat < s.lim.toNat) :
    (s.pullByte b).bitCursor = s.bitCursor := by
  have hpos : (s.pullByte b).pos.toNat = s.pos.toNat + 1 := State.advance_pos_toNat hlt
  have hnone : unreadBits s.mask = 0 := if_pos hm
  rw [State.bitCursor, State.bitCursor, hpos, State.pullByte_unreadBits, hnone]
  omega

/-- Where a cursor is placed, the cursor before makes no difference. -/
theorem State.pullByte_atCursor (c : Nat) : (s.pullByte b).atCursor c = s.atCursor c := rfl

/-- With no bit pending, the first bit of a byte is taken as if the byte had been pulled before. -/
theorem takeBit_pullByte (hm : s.mask = 0#8) (hp : s.peek = .byte b) : takeBit s = takeBit (s.pullByte b) := by
  rw [takeBit, if_pos hm, hp]
  rfl

/-- The reader within its invariants: at the end of the view, before a byte of the view, or inside the byte before `pos`. -/
theorem State.ReaderInv.cursor_cases (h : s.ReaderInv) :
    (s.mask = 0#8 ∧ s.pos = s.lim ∧ s.peek = .endMarker) ∨
    (∃ b, s.mask = 0#8 ∧ s.pos.toNat < s.lim.toNat ∧ s.inp.read s.pos.toNat = some b ∧ s.peek = .byte b) ∨
    ∃ k, s.Pending k := by
  obtain hm | ⟨k, hk, hm⟩ := h.maskOneHot
  · obtain ⟨he, hp⟩ | ⟨b, hlt, hr, hp⟩ := State.peek_cases h.view.posLim h.view.limLen
    · exact .inl ⟨hm, he, hp⟩
    · exact .inr (.inl ⟨b, hm, hlt, hr, hp⟩)
  · obtain ⟨hpulled, hcur⟩ := h.curPulled (hm ▸ oneHot_ne_zero hk)
    exact .inr (.inr ⟨k, hk, hm, hpulled, hcur⟩)

/-- At the end of the view no bit is unread. -/
theorem State.viewBits_at_end (hm : s.mask = 0#8) (he : s.pos = s.lim) : s.viewBits = [] := by
  rw [State.viewBits, State.bytesLeft, hm, he, Nat.sub_self]
  rfl

/-- While a bit is unread, one is pending as it is or once the byte at `pos` has been pulled; the unread bits, the cursor and
the bit taken are the same either way. -/
theorem State.ReaderInv.pending_of_unread (h : s.ReaderInv) (hne : s.viewBits ≠ []) :
    ∃ u k, u.Pending k ∧ takeBit s = takeBit u ∧ u.viewBits = s.viewBits ∧ u.bitCursor = s.bitCursor ∧
      ∀ c, u.atCursor c = s.atCursor c := by
  obtain ⟨hm, he, _⟩ | ⟨b, hm, hlt, hr, hp⟩ | ⟨k, hk⟩ := h.cursor_cases
  · exact absurd (State.viewBits_at_end hm he) hne
  · exact ⟨s.pullByte b, 7, State.pullByte_pending hlt hr, takeBit_pullByte hm hp, State.pullByte_viewBits hm hlt hr,
      State.pullByte_bitCursor hm hlt, State.pullByte_atCursor⟩
  · exact ⟨s, k, hk, rfl, rfl, rfl, fun _ => rfl⟩

/-- With no unread bit in the view no bit is taken and nothing changes (R141). -/
theorem takeBit_of_viewBits_nil (h : s.ReaderInv) (hv : s.viewBits = []) : takeBit s = .done none s := by
  obtain ⟨hm, _, hp⟩ | ⟨b, hm, hlt, hr, _⟩ | ⟨k, hk⟩ := h.cursor_cases
  · rw [takeBit, if_pos hm, hp]
  · rw [← State.pullByte_viewBits hm hlt hr, (State.pullByte_pending hlt hr).viewBits] at hv
    cases hv
  · rw [hk.viewBits] at hv
    cases hv

/-- Otherwise the first unread bit is taken, and the cursor is one bit further (R141). -/
theorem takeBit_of_viewBits_cons {bit : Bool} {bits : List Bool} (h : s.ReaderInv) (hv : s.viewBits = bit :: bits) :
    takeBit s = .done (some bit) (s.atCursor (s.bitCursor + 1)) ∧ (s.atCursor (s.bitCursor + 1)).viewBits = bits := by
  obtain ⟨u, k, hk, htake, hview, hcursor, hat⟩ := h.pending_of_unread (by simp [hv])
  have hnext : u.shiftBit = s.atCursor (s.bitCursor + 1) := by rw [hk.shiftBit_eq, hcursor, hat]
  rw [← hview, hk.viewBits, hnext] at hv
  obtain ⟨hbit, hbits⟩ := List.cons.inj hv
  exact ⟨by rw [htake, takeBit_of_pending hk, hbit, hnext], hbits⟩

end

/-- Settles O26, by the reader's invariants alone. -/
theorem microStepTakesTheNextBit : Obligations.MicroStepTakesTheNextBit := fun _ hs =>
  ⟨takeBit_of_viewBits_nil hs.readerInv, fun _ _ hv =>
    have ⟨htake, hview⟩ := takeBit_of_viewBits_cons hs.readerInv hv
    ⟨_, htake, hview, rfl⟩⟩

/-! ### The reader over another input -/

/-- The same state over another input space. -/
def State.withInput (s : State) (m : Memory) : State := { s with inp := m }

/-- `pos` is inside the view, and `m` holds the bytes of IN below `lim` (R63). -/
structure State.SameView (m : Memory) (s : State) : Prop where
  posLim : s.pos.toNat ≤ s.lim.toNat
  agree : ∀ a, a < s.lim.toNat → m.read a = s.inp.read a

/-- A procedure's end, carried over to another input space. -/
def Proc.withInput {α : Type} (p : Proc α) (m : Memory) : Proc α :=
  match p with
  | .done a s => .done a (s.withInput m)
  | .raised c s => .raised c (s.withInput m)
  | .fault f => .fault f

@[simp] theorem Proc.withInput_done {α : Type} (a : α) (s : State) (m : Memory) :
    (Proc.done a s).withInput m = .done a (s.withInput m) := rfl

/-- A sequence runs alike over the other input if its second part does. -/
theorem Proc.bind_withInput {α β : Type} {p : Proc α} {k : α → State → Proc β} {m : Memory}
    (hk : ∀ a t, p = .done a t → k a (t.withInput m) = (k a t).withInput m) :
    (p.withInput m).bind k = (p.bind k).withInput m := by
  cases p with
  | done a t => exact hk a t rfl
  | raised c t => rfl
  | fault f => rfl

section
variable {s : State} {m : Memory}

/-- Before the end of the view `pos` is below `lim`. -/
theorem State.SameView.pos_lt (h : s.SameView m) (hne : s.pos ≠ s.lim) : s.pos.toNat < s.lim.toNat :=
  Nat.lt_of_le_of_ne h.posLim fun hn => hne (BitVec.eq_of_toNat_eq hn)

/-- Peek reads below `lim` only. -/
theorem State.SameView.peek (h : s.SameView m) : (s.withInput m).peek = s.peek := by
  unfold State.peek
  by_cases he : s.pos = s.lim
  · rw [if_pos he, if_pos (show (s.withInput m).pos = (s.withInput m).lim from he)]
  · have hread : (s.withInput m).inp.read (s.withInput m).pos.toNat = s.inp.read s.pos.toNat :=
      h.agree _ (h.pos_lt he)
    rw [if_neg he, if_neg (show (s.withInput m).pos ≠ (s.withInput m).lim from he), hread]

theorem takeBit_withInput (h : s.SameView m) : takeBit (s.withInput m) = (takeBit s).withInput m := by
  unfold takeBit
  rw [h.peek]
  by_cases hm : s.mask = 0#8
  · rw [if_pos hm, if_pos (show (s.withInput m).mask = 0#8 from hm)]
    cases s.peek <;> rfl
  · rw [if_neg hm, if_neg (show (s.withInput m).mask ≠ 0#8 from hm)]
    rfl

theorem endOfView_withInput (s : State) (m : Memory) : endOfView (s.withInput m) = (endOfView s).withInput m := by
  have hclean : cleanEnd (s.withInput m) = cleanEnd s := rfl
  unfold endOfView
  rw [hclean]
  cases cleanEnd s <;> rfl

theorem descend_withInput (b : Bool) (s : State) (m : Memory) :
    descend b (s.withInput m) = (descend b s).withInput m := by
  have hnode : (s.withInput m).node = s.node := rfl
  unfold descend
  rw [hnode]
  cases nextChild s.node b with
  | node i => rfl
  | leaf sym => by_cases he : sym = Config.eos <;> simp only [he, if_true, if_false] <;> rfl

theorem bitStep_withInput (h : s.SameView m) : bitStep (s.withInput m) = (bitStep s).withInput m := by
  unfold bitStep
  rw [takeBit_withInput h]
  exact Proc.bind_withInput fun bit t _ => by
    cases bit with
    | none => exact endOfView_withInput t m
    | some b => exact descend_withInput b t m

/-- A byte is pulled from before `lim` only, so `pos` stays within the view. -/
theorem takeBit_leads_sameView (h : s.SameView m) : (takeBit s).Leads (State.SameView m) := by
  obtain ⟨_, _, ht⟩ | ⟨b, _, hp, ht⟩ | ⟨_, ht⟩ | ⟨_, _, ht⟩ := takeBit_cases s <;> rw [ht]
  · exact h
  · have hne : s.pos ≠ s.lim := fun he => by simp [State.peek, he] at hp
    have hpos : (s.pullByte b).shiftBit.pos.toNat = s.pos.toNat + 1 := State.advance_pos_toNat (h.pos_lt hne)
    exact ⟨by rw [hpos]; exact h.pos_lt hne, h.agree⟩
  · exact ⟨h.posLim, h.agree⟩
  · trivial

theorem endOfView_leads_sameView (h : s.SameView m) : (endOfView s).Leads (State.SameView m) := by
  obtain ⟨_, he⟩ | ⟨_, he⟩ := endOfView_cases s <;> rw [he]
  · exact h
  · exact ⟨h, by decide⟩

theorem descend_leads_sameView (b : Bool) (h : s.SameView m) : (descend b s).Leads (State.SameView m) := by
  obtain ⟨i, _, hd⟩ | ⟨_, hd⟩ | ⟨sym, _, _, hd⟩ := descend_cases b s <;> rw [hd]
  · exact ⟨h.posLim, h.agree⟩
  · exact ⟨⟨h.posLim, h.agree⟩, by decide⟩
  · exact ⟨h.posLim, h.agree⟩

theorem bitStep_leads_sameView (h : s.SameView m) : (bitStep s).Leads (State.SameView m) :=
  (takeBit_leads_sameView h).bind (fun _ => id) fun bit _ _ ht => by
    cases bit with
    | none => exact endOfView_leads_sameView ht
    | some b => exact descend_leads_sameView b ht

theorem bitLoop_withInput (n : Nat) (h : s.SameView m) : bitLoop n (s.withInput m) = (bitLoop n s).withInput m := by
  induction n generalizing s with
  | zero => rfl
  | succ n ih =>
    have hstep := bitStep_leads_sameView h
    unfold bitLoop
    rw [bitStep_withInput h]
    refine Proc.bind_withInput fun r t ht => ?_
    rw [ht] at hstep
    cases r with
    | goOn => exact ih hstep
    | symbol v => rfl
    | atEnd => rfl

theorem readNext_withInput (h : s.SameView m) : readNext (s.withInput m) = (readNext s).withInput m :=
  bitLoop_withInput _ h

theorem deliverSymbol_withInput (r : Option Byte) (s : State) (m : Memory) :
    deliverSymbol r (s.withInput m) = (deliverSymbol r s).withInput m := by
  cases r <;> rfl

/-- A command's end over the other input, if its result does not look at the input. -/
theorem Proc.commit_withInput {α : Type} {p : Proc α} {g : α → State → State} {t : State}
    (hg : ∀ a u, g a (u.withInput m) = (g a u).withInput m) (h : p.commit g = .next t) :
    (p.withInput m).commit g = .next (t.withInput m) := by
  obtain ⟨a, u, rfl, rfl⟩ | ⟨c, u, rfl, rfl⟩ := Proc.commit_next h
  · rw [Proc.withInput_done, Proc.commit_done, hg]
  · rfl

/-- RDSYM over the other input: refused, ILLEGAL_COMMAND, or one readNext. -/
theorem exec_rdsym_withInput {t : State} (hv : s.SameView m) (h : exec .rdsym s = .next t) :
    exec .rdsym (s.withInput m) = .next (t.withInput m) := by
  cases he : s.err with
  | true =>
    rw [exec_of_err he] at h
    cases h
    exact exec_of_err (s := s.withInput m) he _
  | false =>
    rw [exec_rdsym_of_ok he] at h
    rw [exec_rdsym_of_ok (s := s.withInput m) he]
    cases ho : s.isOpen with
    | true =>
      rw [if_pos ho] at h
      rw [if_pos (show (s.withInput m).isOpen = true from ho), readNext_withInput hv]
      exact Proc.commit_withInput (fun r u => deliverSymbol_withInput r u m) h
    | false =>
      rw [if_neg (by simp [ho])] at h
      cases h
      exact if_neg (show ¬ s.isOpen = true by simp [ho])

end

/-- Settles O34, by induction on the micro-steps of readNext, each of which takes the same bit from both inputs. -/
theorem rdsymSeesOnlyTheView : Obligations.RdsymSeesOnlyTheView :=
  fun _ _ hpos hagree _ h => exec_rdsym_withInput ⟨hpos, hagree⟩ h

end Sys2Proof.Machine
end

section
/-!
The family of 30_encoding.md. The code table first: its codes are the leaves of a full binary tree (`isFullTree`), so every
long enough bit string begins with exactly one of them, and the decoder finds that one. Then the command words, each read by
its two fields. Last the integers: what IntCore does with the bytes of one (`State.NextBytes`), and which bytes the reference
encoder writes.
-/

namespace Sys2Proof.Machine

/-! ### The bits of a number -/

@[simp] theorem codeBits_length (n c : Nat) : (codeBits n c).length = n := by
  induction n with
  | zero => rfl
  | succ n ih => rw [codeBits, List.length_cons, ih]

/-- The first `m` of `m + n` bits are those of the number without its `n` low bits. -/
theorem codeBits_add (m n c : Nat) : codeBits (m + n) c = codeBits m (c >>> n) ++ codeBits n c := by
  induction m with
  | zero => rw [Nat.zero_add]; rfl
  | succ m ih =>
    rw [Nat.succ_add, codeBits, codeBits, ih, Nat.testBit_shiftRight, Nat.add_comm n m]
    rfl

theorem foldl_codeBits (n c acc : Nat) :
    (codeBits n c).foldl (fun acc b => 2 * acc + b.toNat) acc = acc * 2 ^ n + c % 2 ^ n := by
  induction n generalizing acc with
  | zero => simp [codeBits, Nat.mod_one]
  | succ n ih =>
    rw [codeBits, List.foldl_cons, ih, Nat.toNat_testBit, Nat.mod_pow_succ]
    ring

/-- The `n` low bits of a number, read back, are its remainder by `2^n`. -/
theorem bitsToNat_codeBits (n c : Nat) : bitsToNat (codeBits n c) = c % 2 ^ n := by
  rw [bitsToNat, foldl_codeBits, Nat.zero_mul, Nat.zero_add]

/-- Numbers of `n` bits are told apart by their bits. -/
theorem codeBits_inj {n a b : Nat} (ha : a < 2 ^ n) (hb : b < 2 ^ n) : codeBits n a = codeBits n b ↔ a = b := by
  refine ⟨fun h => ?_, fun h => by rw [h]⟩
  have hread := congrArg bitsToNat h
  rwa [bitsToNat_codeBits, bitsToNat_codeBits, Nat.mod_eq_of_lt ha, Nat.mod_eq_of_lt hb] at hread

/-! ### The code is a full binary tree -/

/-- What follows bit `b` in the codes that begin with it. -/
def codesAfter (b : Bool) (codes : List (List Bool)) : List (List Bool) :=
  codes.filterMap fun code => if code.head? = some b then some code.tail else none

/-- The codes are the leaves of a full binary tree of depth at most `n`: a single empty code, or no empty code and a full
tree after each of the two first bits. -/
def isFullTree : Nat → List (List Bool) → Bool
  | 0, codes => codes == [[]]
  | n + 1, codes =>
    codes == [[]] ||
      (!codes.contains [] && isFullTree n (codesAfter false codes) && isFullTree n (codesAfter true codes))

/-- If no code is empty, those that begin a bit string are those that go on after its first bit. -/
theorem countP_codesAfter {codes : List (List Bool)} (h : [] ∉ codes) (b : Bool) (bits : List Bool) :
    codes.countP (·.isPrefixOf (b :: bits)) = (codesAfter b codes).countP (·.isPrefixOf bits) := by
  rw [codesAfter, List.countP_filterMap]
  refine List.countP_congr fun code hc => ?_
  cases code with
  | nil => exact absurd hc h
  | cons c rest => by_cases hcb : c = b <;> simp [hcb]

/-- Exactly one leaf of a full tree lies on the path of a bit string that is long enough. -/
theorem countP_of_isFullTree {n : Nat} {codes : List (List Bool)} {bits : List Bool} (h : isFullTree n codes = true)
    (hn : n ≤ bits.length) : codes.countP (·.isPrefixOf bits) = 1 := by
  have leaf : [[]].countP (·.isPrefixOf bits) = 1 := rfl
  induction n generalizing codes bits with
  | zero =>
    rw [isFullTree, beq_iff_eq] at h
    rw [h, leaf]
  | succ n ih =>
    simp only [isFullTree, Bool.or_eq_true, Bool.and_eq_true, beq_iff_eq, Bool.not_eq_true', List.contains_eq_mem,
      decide_eq_false_iff_not] at h
    obtain rfl | ⟨⟨hne, hfalse⟩, htrue⟩ := h
    · exact leaf
    · cases bits with
      | nil => simp at hn
      | cons b bits =>
        rw [countP_codesAfter hne]
        have hn' : n ≤ bits.length := by simpa using hn
        cases b
        · exact ih hfalse hn' rfl
        · exact ih htrue hn' rfl

theorem hufRows_isFullTree : isFullTree Config.maxLen (hufRows.map HufRow.bits) = true := by
  decide +kernel

/-- A list that has one member with a property has exactly one such element. -/
theorem existsUnique_of_countP {α : Type} {p : α → Bool} {l : List α} (h : l.countP p = 1) :
    ∃! a, a ∈ l ∧ p a = true := by
  rw [List.countP_eq_length_filter, List.length_eq_one_iff] at h
  obtain ⟨a, ha⟩ := h
  have hmem : ∀ b, b ∈ l ∧ p b = true ↔ b = a := fun b => by rw [← List.mem_filter, ha, List.mem_singleton]
  exact ⟨a, (hmem a).2 rfl, fun b => (hmem b).1⟩

/-- Every bit string of MAXLEN bits or more begins with the code of exactly one row (R98). -/
theorem existsUnique_row_prefix {bits : List Bool} (h : Config.maxLen ≤ bits.length) :
    ∃! r : HufRow, r ∈ hufRows ∧ r.bits <+: bits := by
  have hone := countP_of_isFullTree hufRows_isFullTree h
  rw [List.countP_map] at hone
  simpa using existsUnique_of_countP hone

/-- No bit string at all begins with the codes of two rows: it may be padded to MAXLEN bits. -/
theorem row_eq_of_prefix {q r : HufRow} {bits : List Bool} (hq : q ∈ hufRows) (hr : r ∈ hufRows) (hqb : q.bits <+: bits)
    (hrb : r.bits <+: bits) : q = r :=
  (existsUnique_row_prefix (bits := bits ++ List.replicate Config.maxLen true) (by simp)).unique
    ⟨hq, List.prefix_append_of_prefix hqb⟩ ⟨hr, List.prefix_append_of_prefix hrb⟩

/-! ### Decoding the code at the head of a bit string -/

/-- The row found at the head of a bit string is the one whose code the bits begin with (R101). -/
theorem decodeCode_of_prefix {r : HufRow} {bits : List Bool} (hr : r ∈ hufRows) (h : r.bits <+: bits) :
    decodeCode bits = some (r, bits.drop r.length) := by
  have hfind : hufRows.find? (fun q => q.bits.isPrefixOf bits) = some r := by
    cases hf : hufRows.find? (fun q => q.bits.isPrefixOf bits) with
    | none => exact absurd (List.isPrefixOf_iff_prefix.2 h) (List.find?_eq_none.1 hf r hr)
    | some q =>
      have hqb := List.find?_some hf
      rw [row_eq_of_prefix (List.mem_of_find?_eq_some hf) hr (List.isPrefixOf_iff_prefix.1 hqb) h]
  rw [decodeCode, hfind]

theorem decode_of_prefix {r : HufRow} {bits : List Bool} (hr : r ∈ hufRows) (h : r.bits <+: bits) :
    decode (.code bits) = .ok r.instr := by
  rw [decode, decodeCode_of_prefix hr h]

/-- A code word is encoded as its code. -/
theorem encode_of_symbol (i : Instr) : i.symbol? = none ∨ encode i = .code (encodeCode i) := by
  cases i with
  | decint _ | decstr | dechuf | bropen | rdsym | brclose => exact .inl rfl
  | _ => exact .inr rfl

theorem encode_row {r : HufRow} (h : r ∈ hufRows) : encode r.instr = .code r.bits := by
  obtain ⟨_, hsym, _⟩ := row_facts h
  obtain hn | he := encode_of_symbol r.instr
  · rw [hsym] at hn
    cases hn
  · rw [he, encodeCode, hsym, ← hufCode_of_row h]

theorem decode_encode_decint {n : Nat} (h : n < 16) : decode (encode (.decint n)) = .ok (.decint n) :=
  (by decide : ∀ n < 16, decode (encode (.decint n)) = .ok (.decint n)) n h

/-- Settles O1: a command word has its fields, a code word is the only code its own bits begin with. -/
theorem decodeInvertsEncode : Obligations.DecodeInvertsEncode := by
  intro i hwf
  rcases instr_cases i with ⟨n, rfl⟩ | rfl | rfl | rfl | rfl | rfl | ⟨r, hr, rfl⟩
  · exact decode_encode_decint (of_decide_eq_true hwf)
  · rfl
  · rfl
  · rfl
  · rfl
  · rfl
  · rw [encode_row hr]
    exact decode_of_prefix hr (List.prefix_refl _)

/-- The numbers of a row fit: a length of MINLEN to MAXLEN bits and a code of that many bits (R98, R99). -/
theorem row_length_code :
    ∀ r ∈ hufRows, Config.minLen ≤ r.length ∧ r.length ≤ Config.maxLen ∧ r.code < 2 ^ r.length := by
  decide +kernel

theorem row_bits_length (r : HufRow) : r.bits.length = r.length := codeBits_length _ _

/-- Settles O4: the codes are the leaves of a full tree, and rows stand at their symbols. -/
theorem codeIsPrefixFreeAndComplete : Obligations.CodeIsPrefixFreeAndComplete := by
  refine ⟨fun bits h => existsUnique_row_prefix h, fun r hr => ?_, fun sym hsym => ?_⟩
  · obtain ⟨_, _, hlt⟩ := row_facts hr
    obtain ⟨hmin, hmax, _⟩ := row_length_code r hr
    rw [row_bits_length]
    exact ⟨Nat.le_of_lt_succ hlt, hmin, hmax⟩
  · obtain ⟨r, hr, rfl⟩ : ∃ r ∈ hufRows, r.symbol = sym := by
      rw [← List.mem_map, hufRows_symbols.2, List.mem_range]
      exact Nat.lt_succ_of_le hsym
    refine ⟨r, ⟨hr, rfl⟩, fun q ⟨hq, hqr⟩ => ?_⟩
    have hat := (row_facts hq).1
    rw [hqr, (row_facts hr).1] at hat
    exact (Option.some.inj hat).symm

/-! ### The window -/

/-- ANDing with `n` ones above `k` zeros takes the `k` low bits off a number of `n + k` bits. -/
theorem and_mask_eq {w n k : Nat} (hw : w < 2 ^ (n + k)) : w &&& ((2 ^ n - 1) <<< k) = (w >>> k) <<< k := by
  refine Nat.eq_of_testBit_eq fun i => ?_
  simp only [Nat.testBit_and, Nat.testBit_shiftLeft, Nat.testBit_two_pow_sub_one, Nat.testBit_shiftRight]
  by_cases hk : k ≤ i
  · by_cases hi : i < n + k
    · simp [hk, show i - k < n by omega]
    · have hzero : w.testBit i = false :=
        Nat.testBit_lt_two_pow (hw.trans_le (Nat.pow_le_pow_right (by decide) (Nat.le_of_not_lt hi)))
      simp [hk, hzero]
  · simp [hk]

/-- The table's mask and match test whether the window begins with the code (R101). -/
theorem window_matches_iff {q : HufRow} {w : Nat} (hq : q ∈ hufRows) (hw : w < 2 ^ 32) :
    w &&& ((2 ^ q.length - 1) <<< (32 - q.length)) = q.code <<< (32 - q.length) ↔ q.bits <+: windowBits w := by
  obtain ⟨_, hmax, hcode⟩ := row_length_code q hq
  have hlen : q.length + (32 - q.length) = 32 := Nat.add_sub_of_le (hmax.trans (by decide))
  have hw' : w < 2 ^ (q.length + (32 - q.length)) := by rwa [hlen]
  have hshift : w >>> (32 - q.length) < 2 ^ q.length := by
    rw [Nat.shiftRight_eq_div_pow]
    exact Nat.div_lt_of_lt_mul (by rwa [← Nat.pow_add, Nat.add_comm])
  have hwin : windowBits w = codeBits q.length (w >>> (32 - q.length)) ++ codeBits (32 - q.length) w := by
    rw [← codeBits_add, hlen, windowBits]
  calc w &&& ((2 ^ q.length - 1) <<< (32 - q.length)) = q.code <<< (32 - q.length)
      ↔ w >>> (32 - q.length) = q.code := by
        rw [and_mask_eq hw', Nat.shiftLeft_eq, Nat.shiftLeft_eq, Nat.mul_left_inj (Nat.two_pow_pos _).ne']
    _ ↔ codeBits q.length q.code = codeBits q.length (w >>> (32 - q.length)) := by
        rw [codeBits_inj hcode hshift, eq_comm]
    _ ↔ q.bits <+: windowBits w := by
        rw [List.prefix_iff_eq_take, hwin, row_bits_length, List.take_left' (codeBits_length _ _), HufRow.bits]

/-- Settles O5: the row whose code the window begins with is the one that matches. -/
theorem windowMatchesExactlyOneRow : Obligations.WindowMatchesExactlyOneRow := by
  intro w hw
  obtain ⟨r, ⟨hr, hrw⟩, _⟩ := existsUnique_row_prefix (bits := windowBits w) (by simp [windowBits, Config.maxLen])
  refine ⟨r, hr, decode_of_prefix hr hrw, fun q hq => (window_matches_iff hq hw).trans ⟨fun hqw => ?_, fun h => ?_⟩⟩
  · exact row_eq_of_prefix hq hr hqw hrw
  · rwa [h]

/-! ### The command words -/

/-- The commands without an operand field, each with its `op` (R91). -/
def plainCommands : List (Nat × Instr) := [(2, .decstr), (3, .dechuf), (4, .bropen), (5, .rdsym), (6, .brclose)]

theorem plainCommands_words :
    ∀ p ∈ plainCommands, p.2.wellFormed = true ∧ encode p.2 = .command (BitVec.ofNat 8 (16 * p.1 + 0)) := by
  decide

theorem opField_of_plain : ∀ p ∈ plainCommands, 2 ≤ p.1 ∧ p.1 ≤ 6 := by decide

theorem exists_plain : ∀ op ≤ 6, 2 ≤ op → ∃ p ∈ plainCommands, p.1 = op := by decide

section
variable {w : Byte} {s : State}

theorem nField_lt (w : Byte) : nField w < 16 := Nat.mod_lt _ (by decide)

/-- A word is made of its two fields (R90). -/
theorem ofNat_fields (w : Byte) : BitVec.ofNat 8 (16 * opField w + nField w) = w := by
  rw [opField, nField, Nat.div_add_mod, BitVec.ofNat_toNat, BitVec.setWidth_eq]

theorem plainCommand_eq_ok {i j : Instr} : plainCommand w j = .ok i ↔ nField w = 0 ∧ i = j := by
  by_cases h : nField w = 0 <;> simp [plainCommand, h, eq_comm]

/-- The words that decode (R91). -/
theorem decode_command_eq_ok {i : Instr} :
    decode (.command w) = .ok i ↔
      (opField w = 1 ∧ i = .decint (nField w)) ∨ (nField w = 0 ∧ (opField w, i) ∈ plainCommands) := by
  rw [decode, decodeCommand]
  split
  case h_1 h => simp [h, plainCommands, eq_comm]
  case h_7 => simp_all [plainCommands]
  all_goals next h => simp [h, plainCommand_eq_ok, plainCommands]

/-- The words that decode, by their fields alone. -/
theorem exists_decode_command :
    (∃ i, decode (.command w) = .ok i) ↔ opField w = 1 ∨ (nField w = 0 ∧ 2 ≤ opField w ∧ opField w ≤ 6) := by
  simp only [decode_command_eq_ok]
  constructor
  · rintro ⟨i, ⟨hop, _⟩ | ⟨hn, hp⟩⟩
    · exact .inl hop
    · exact .inr ⟨hn, opField_of_plain _ hp⟩
  · rintro (hop | ⟨hn, hmin, hmax⟩)
    · exact ⟨_, .inl ⟨hop, rfl⟩⟩
    · obtain ⟨⟨op, i⟩, hp, hop⟩ := exists_plain _ hmax hmin
      exact ⟨i, .inr ⟨hn, hop ▸ hp⟩⟩

theorem runCommand_of_decode {i : Instr} (h : decode (.command w) = .ok i) : runCommand w s = exec i s := by
  rw [runCommand, h]

/-- A word that does not decode is a reserved one (R92). -/
theorem runCommand_of_reserved (hs : s.err = false) (h : ¬ ∃ i, decode (.command w) = .ok i) :
    runCommand w s = .next (s.raiseError .illegalCommand) := by
  rw [runCommand]
  cases hd : decode (.command w) with
  | ok i => exact absurd ⟨i, hd⟩ h
  | error e => exact unlessError_of_ok hs _

/-- The sizes N that R185 makes legal. -/
theorem legalPrefixSize_iff {n : Nat} : legalPrefixSize n = true ↔ 1 ≤ n ∧ n ≤ 8 := by
  rw [legalPrefixSize, Bool.and_eq_true, decide_eq_true_eq, decide_eq_true_eq, Config.nMin, Config.nMax]

/-- Outside a context an illegal size N is refused before any input is read (R185). -/
theorem exec_decint_of_illegal {n : Nat} (hs : s.err = false) (ho : s.isOpen = false) (hn : n = 0 ∨ 8 < n) :
    exec (.decint n) s = .next (s.raiseError .badPrefixSize) := by
  have hlegal : ¬ legalPrefixSize n = true := by
    rw [legalPrefixSize_iff]
    omega
  rw [exec_decint_of_ok hs, if_neg (by simp [ho]), if_neg hlegal]

end

/-- Settles O2: a word that decodes is made of the fields that its instruction is encoded with. -/
theorem commandWordsHaveOneMeaning : Obligations.CommandWordsHaveOneMeaning := by
  intro w i h
  have hw := ofNat_fields w
  obtain ⟨hop, rfl⟩ | ⟨hn, hp⟩ := decode_command_eq_ok.1 h
  · rw [hop] at hw
    exact ⟨decide_eq_true (nField_lt w), congrArg Encoding.command hw⟩
  · obtain ⟨hwf, he⟩ := plainCommands_words _ hp
    rw [hn] at hw
    exact ⟨hwf, he.trans (congrArg Encoding.command hw)⟩

/-- Settles O22: the reserved words are those that do not decode, and DECINT decodes with any `n`. -/
theorem reservedWordsRaiseIllegalCommand : Obligations.ReservedWordsRaiseIllegalCommand := by
  intro w
  have hdecodes := exists_decode_command (w := w)
  refine ⟨hdecodes.trans (by omega), fun s hs => ⟨fun hres => ?_, fun hop hn => ⟨by omega, fun ho => ?_⟩⟩⟩
  · exact runCommand_of_reserved hs (by rw [hdecodes]; omega)
  · rw [runCommand_of_decode (decode_command_eq_ok.2 (.inl ⟨hop, rfl⟩))]
    exact exec_decint_of_illegal hs ho (by omega)

/-- Settles O3, by running the decoder on each word. -/
theorem writtenOutWordsDecode : Obligations.WrittenOutWordsDecode :=
  ⟨rfl, rfl, rfl, rfl, rfl, rfl, rfl, rfl, rfl, rfl, by decide, by decide, by decide, by decide, by decide, by decide⟩

/-! ### The bytes of an integer -/

/-- `bs` are the next bytes of the view. -/
structure State.NextBytes (s : State) (bs : List Byte) : Prop where
  bytes : s.inp.bytes s.pos.toNat bs.length = bs
  inView : bs.length ≤ s.bytesLeft

section
variable {s : State} {b : Byte} {bs : List Byte}

/-- The first byte of several read is the one at their address. -/
theorem Memory.bytes_eq_cons {m : Memory} {a n : Nat} (h : m.bytes a (n + 1) = b :: bs) :
    m.read a = some b ∧ m.bytes (a + 1) n = bs := by
  rw [Memory.bytes] at h
  cases hr : m.read a with
  | none => simp [hr] at h
  | some c => simpa [hr] using h

theorem State.NextBytes.pos_lt (h : s.NextBytes (b :: bs)) : s.pos.toNat < s.lim.toNat := by
  have := h.inView
  rw [State.bytesLeft, List.length_cons] at this
  omega

theorem State.NextBytes.peek (h : s.NextBytes (b :: bs)) : s.peek = .byte b := by
  have hne : s.pos ≠ s.lim := fun he => by simpa [he] using h.pos_lt
  rw [State.peek, if_neg hne, (Memory.bytes_eq_cons h.bytes).1]

theorem State.NextBytes.advance (h : s.NextBytes (b :: bs)) : (s.advance 1).NextBytes bs := by
  have hpos := State.advance_pos_toNat (n := 1) h.pos_lt
  have hlen := h.inView
  refine ⟨?_, ?_⟩
  · rw [State.advance_inp, hpos]
    exact (Memory.bytes_eq_cons h.bytes).2
  · rw [State.bytesLeft, List.length_cons] at hlen
    rw [State.bytesLeft, hpos, State.advance_lim]
    omega

/-- Two moves of `pos` are one, also where `pos` wraps. -/
theorem State.advance_advance (s : State) (m n : Nat) : (s.advance m).advance n = s.advance (m + n) := by
  have hpos : BitVec.ofNat 64 ((s.advance m).pos.toNat + n) = BitVec.ofNat 64 (s.pos.toNat + (m + n)) := by
    refine BitVec.eq_of_toNat_eq ?_
    simp only [State.advance_pos, BitVec.toNat_ofNat]
    omega
  rw [State.advance, hpos]
  rfl

/-- After some of the next bytes the others are next. -/
theorem State.NextBytes.advance_length {more : List Byte} (h : s.NextBytes (more ++ bs)) :
    (s.advance more.length).NextBytes bs := by
  induction more generalizing s with
  | nil =>
    have : s.advance 0 = s := by simp [State.advance]
    rwa [List.length_nil, this]
  | cons c more ih =>
    rw [List.length_cons, Nat.add_comm, ← State.advance_advance]
    exact ih h.advance

/-! ### IntCore -/

/-- A continuation byte that keeps the sum within 64 bits is added, whatever its weight: beyond weight `128^9` its payload
is 0 (R183). -/
theorem intLoop_of_byte {fuel acc k count : Nat} (hp : s.peek = .byte b)
    (hfit : acc + payload b * 128 ^ k ≤ Config.valMax) :
    intLoop (fuel + 1) acc (min k 10) count s =
      if moreFlag b then intLoop fuel (acc + payload b * 128 ^ k) (min (k + 1) 10) (count + 1) (s.advance 1)
      else .done (acc + payload b * 128 ^ k, count + 1) (s.advance 1) := by
  have hzero : 10 ≤ k → payload b = 0 := fun hk => by
    by_contra hne
    have : 128 ^ 10 ≤ payload b * 128 ^ k :=
      (Nat.pow_le_pow_right (by decide) hk).trans (Nat.le_mul_of_pos_left _ (Nat.pos_of_ne_zero hne))
    rw [Config.valMax] at hfit
    omega
  have hterm : payload b * 128 ^ min k 10 = payload b * 128 ^ k := by
    obtain hk | hk := Nat.le_total k 10
    · rw [Nat.min_eq_left hk]
    · rw [hzero hk, Nat.zero_mul, Nat.zero_mul]
  have hno : ¬ (payload b ≠ 0 ∧ (10 ≤ min k 10 ∨ Config.valMax < acc + payload b * 128 ^ k)) := by
    rintro ⟨hne, hk | hover⟩
    · exact hne (hzero (by omega))
    · omega
  have hmin : min (min k 10 + 1) 10 = min (k + 1) 10 := by omega
  rw [intLoop, hp]
  simp only [hterm, if_neg hno, hmin]

/-- Continuation bytes that say another one follows are added up. -/
theorem intLoop_of_more {more : List Byte} {fuel acc k count : Nat} (h : s.NextBytes (more ++ bs))
    (hmore : more.all moreFlag = true) (hfit : acc + continuationValue k more ≤ Config.valMax) :
    intLoop (fuel + more.length) acc (min k 10) count s =
      intLoop fuel (acc + continuationValue k more) (min (k + more.length) 10) (count + more.length)
        (s.advance more.length) := by
  induction more generalizing s acc k count with
  | nil => simp [continuationValue, State.advance]
  | cons b more ih =>
    rw [List.all_cons, Bool.and_eq_true] at hmore
    rw [continuationValue, ← Nat.add_assoc] at hfit
    have hbyte : acc + payload b * 128 ^ k ≤ Config.valMax := (Nat.le_add_right _ _).trans hfit
    rw [List.length_cons, ← Nat.add_assoc, intLoop_of_byte h.peek hbyte, if_pos hmore.1,
      ih h.advance hmore.2 hfit, State.advance_advance, continuationValue]
    simp only [Nat.add_assoc, Nat.add_comm 1 more.length]

theorem continuationValue_append (k : Nat) (xs ys : List Byte) :
    continuationValue k (xs ++ ys) = continuationValue k xs + continuationValue (k + xs.length) ys := by
  induction xs generalizing k with
  | nil => simp [continuationValue]
  | cons x xs ih =>
    rw [List.cons_append, continuationValue, continuationValue, ih, List.length_cons, Nat.add_assoc, Nat.add_assoc,
      Nat.add_comm 1]

/-- Continuation bytes up to the first that says no other follows give their value. -/
theorem intLoop_of_continuation {more : List Byte} {last : Byte} {fuel acc count : Nat}
    (h : s.NextBytes (more ++ [last])) (hmore : more.all moreFlag = true) (hlast : moreFlag last = false)
    (hfit : acc + continuationValue 0 (more ++ [last]) ≤ Config.valMax) (hfuel : (more ++ [last]).length ≤ fuel) :
    intLoop fuel acc 0 count s =
      .done (acc + continuationValue 0 (more ++ [last]), count + (more ++ [last]).length)
        (s.advance (more ++ [last]).length) := by
  have hvalue : continuationValue 0 (more ++ [last]) = continuationValue 0 more + payload last * 128 ^ more.length := by
    simp [continuationValue_append, continuationValue]
  have hlen : (more ++ [last]).length = more.length + 1 := List.length_append
  obtain ⟨f, rfl⟩ : ∃ f, fuel = f + 1 + more.length := ⟨fuel - 1 - more.length, by omega⟩
  rw [hvalue, ← Nat.add_assoc] at hfit
  have hfront := intLoop_of_more (k := 0) (fuel := f + 1) (count := count) h hmore ((Nat.le_add_right _ _).trans hfit)
  rw [Nat.zero_min, Nat.zero_add] at hfront
  rw [hfront, intLoop_of_byte h.advance_length.peek hfit, if_neg (by simp [hlast]), State.advance_advance, hvalue, hlen,
    Nat.add_assoc, Nat.add_assoc]

/-- IntCore reads an integer that stands at `pos` (R95, R181). -/
theorem intCore_of_integerAt {n v : Nat} (hview : s.ViewOk) (h : s.IntegerAt n b bs v) :
    intCore n s = .done (v, 1 + bs.length) (s.advance (1 + bs.length)) := by
  obtain ⟨hbytes, hlen, hvalue, hfits⟩ := h
  rw [Nat.add_comm] at hbytes hlen
  have hnext : s.NextBytes (b :: bs) := ⟨hbytes, hlen⟩
  rw [intCore, hnext.peek]
  obtain ⟨rfl, hlt, rfl⟩ | ⟨more, last, rfl, hfull, hmore, hlast, rfl⟩ := hvalue
  · exact if_pos hlt
  · have hfuel : (more ++ [last]).length ≤ s.inp.len.toNat - (s.advance 1).pos.toNat :=
      hnext.advance.inView.trans (Nat.sub_le_sub_right hview.limLen _)
    have hloop := intLoop_of_continuation (count := 1) hnext.advance hmore hlast hfits hfuel
    rw [State.advance_advance] at hloop
    exact (if_neg (by omega)).trans hloop

/-- DECINT reads an integer that stands at `pos` (R180). -/
theorem exec_decint_of_integerAt {n v : Nat} (hs : s.Inv) (he : s.err = false) (ho : s.isOpen = false) (hmin : 1 ≤ n)
    (hmax : n ≤ 8) (h : s.IntegerAt n b bs v) :
    exec (.decint n) s = .next ((s.advance (1 + bs.length)).setResult .value v (1 + bs.length)) := by
  rw [exec_decint_of_ok he, if_neg (by simp [ho]), if_pos (legalPrefixSize_iff.2 ⟨hmin, hmax⟩),
    intCore_of_integerAt hs.view h, Proc.commit_done]

end

/-! ### The shortest form -/

theorem payload_ofNat (r : Nat) : payload (BitVec.ofNat 8 r) = r % 128 := by
  rw [payload, BitVec.toNat_ofNat]
  omega

theorem moreFlag_ofNat (r : Nat) : moreFlag (BitVec.ofNat 8 r) = decide (128 ≤ r % 256) :=
  BitVec.msb_eq_decide (BitVec.ofNat 8 r)

theorem continuationValue_single {r : Nat} (k : Nat) (h : r < 128) :
    continuationValue k [BitVec.ofNat 8 r] = r * 128 ^ k := by
  rw [continuationValue, continuationValue, Nat.add_zero, payload_ofNat, Nat.mod_eq_of_lt h]

theorem continuationBytes_length (fuel r : Nat) : (continuationBytes fuel r).length ≤ fuel + 1 := by
  induction fuel generalizing r with
  | zero => exact Nat.le_refl _
  | succ fuel ih =>
    rw [continuationBytes]
    split
    · simp
    · simpa using ih (r / 128)

/-- The writer marks every continuation byte but the last. -/
theorem continuationBytes_flags (fuel r : Nat) :
    ∃ more last, continuationBytes fuel r = more ++ [last] ∧ more.all moreFlag = true ∧ moreFlag last = false := by
  have hlast : ∀ r < 128, moreFlag (BitVec.ofNat 8 r) = false := fun r hr => by
    rw [moreFlag_ofNat, decide_eq_false_iff_not]
    omega
  induction fuel generalizing r with
  | zero => exact ⟨[], _, rfl, rfl, hlast _ (Nat.mod_lt _ (by decide))⟩
  | succ fuel ih =>
    rw [continuationBytes]
    split
    · next hr => exact ⟨[], _, rfl, rfl, hlast _ hr⟩
    · obtain ⟨more, last, he, hmore, hend⟩ := ih (r / 128)
      refine ⟨BitVec.ofNat 8 (128 + r % 128) :: more, last, by rw [he]; rfl, ?_, hend⟩
      rw [List.all_cons, hmore, Bool.and_true, moreFlag_ofNat, decide_eq_true_eq]
      omega

/-- The bytes the writer makes of a remainder carry it, if they are enough for it. -/
theorem continuationValue_continuationBytes {fuel r : Nat} (k : Nat) (h : r < 128 ^ (fuel + 1)) :
    continuationValue k (continuationBytes fuel r) = r * 128 ^ k := by
  induction fuel generalizing r k with
  | zero =>
    have hr : r < 128 := h
    rw [continuationBytes, Nat.mod_eq_of_lt hr, continuationValue_single k hr]
  | succ fuel ih =>
    rw [continuationBytes]
    split
    · next hr => exact continuationValue_single k hr
    · have hrest : r / 128 < 128 ^ (fuel + 1) := Nat.div_lt_of_lt_mul (by rwa [← Nat.pow_succ'])
      calc continuationValue k (BitVec.ofNat 8 (128 + r % 128) :: continuationBytes fuel (r / 128))
          = r % 128 * 128 ^ k + r / 128 * 128 ^ (k + 1) := by
            rw [continuationValue, ih _ hrest, payload_ofNat, Nat.add_mod_left, Nat.mod_mod]
        _ = (r % 128 + 128 * (r / 128)) * 128 ^ k := by ring
        _ = r * 128 ^ k := by rw [Nat.mod_add_div]

/-- What is written into the low `n` bits of a first byte is read back (R93). -/
theorem prefixField_or {n v : Nat} {hi : Byte} (hn : n ≤ 8) (hhi : hi.toNat % 2 ^ n = 0) (hv : v < 2 ^ n) :
    prefixField n (hi ||| BitVec.ofNat 8 v) = v := by
  have hlt : v < 2 ^ 8 := hv.trans_le (Nat.pow_le_pow_right (by decide) hn)
  rw [prefixField, BitVec.toNat_or, Nat.or_mod_two_pow, hhi, BitVec.toNat_ofNat, Nat.mod_eq_of_lt hlt, Nat.zero_or,
    Nat.mod_eq_of_lt hv]

/-- The shortest form is a first byte and at most ten continuation bytes (R187). -/
theorem encodeInteger_length (v n : Nat) (hi : Byte) : (encodeInteger v n hi).length ≤ 11 := by
  rw [encodeInteger]
  split
  · simp
  · exact Nat.succ_le_succ (continuationBytes_length 9 _)

/-- The shortest form of a 64-bit value, where it stands at `pos`, is an integer of that value (R95). -/
theorem exists_integerAt_of_encodeInteger {s : State} {v n : Nat} {hi : Byte} (hn : n ≤ 8) (hv : v < 2 ^ 64)
    (hhi : hi.toNat % 2 ^ n = 0) (hnext : s.NextBytes (encodeInteger v n hi)) :
    ∃ b cs, encodeInteger v n hi = b :: cs ∧ s.IntegerAt n b cs v := by
  obtain ⟨hbytes, hlen⟩ := hnext
  have hfits : v ≤ Config.valMax := Nat.le_pred_of_lt hv
  have hfull : fullPrefix n < 2 ^ n := Nat.pred_lt (Nat.two_pow_pos n).ne'
  by_cases hlt : v < fullPrefix n
  · have he : encodeInteger v n hi = [hi ||| BitVec.ofNat 8 v] := if_pos hlt
    have hprefix := prefixField_or hn hhi (hlt.trans hfull)
    rw [he] at hbytes hlen
    exact ⟨_, [], he, hbytes, hlen, .inl ⟨rfl, by rwa [hprefix], hprefix.symm⟩, hfits⟩
  · have he : encodeInteger v n hi = (hi ||| BitVec.ofNat 8 (fullPrefix n)) :: continuationBytes 9 (v - fullPrefix n) :=
      if_neg hlt
    obtain ⟨more, last, hcs, hmore, hlast⟩ := continuationBytes_flags 9 (v - fullPrefix n)
    have hvalue := continuationValue_continuationBytes (fuel := 9) (r := v - fullPrefix n) 0 (by omega)
    rw [he, List.length_cons, Nat.add_comm] at hbytes hlen
    refine ⟨_, _, he, hbytes, hlen, .inr ⟨more, last, hcs, prefixField_or hn hhi hfull, hmore, hlast, ?_⟩, hfits⟩
    rw [hvalue]
    omega

/-- Settles O39: the writer's bytes are an integer of the value, and DECINT reads an integer. -/
theorem decintInvertsTheShortestForm : Obligations.DecintInvertsTheShortestForm := by
  intro s v n hi hs he ho hmin hmax hv hhi bs hlen hbytes
  refine ⟨encodeInteger_length v n hi, ?_⟩
  obtain ⟨b, cs, hbs, hat⟩ := exists_integerAt_of_encodeInteger hmax hv hhi ⟨hbytes, hlen⟩
  have hcount : bs.length = 1 + cs.length := by rw [show bs = b :: cs from hbs, List.length_cons, Nat.add_comm]
  rw [exec_decint_of_integerAt hs he ho hmin hmax hat, ← hcount]
  rfl

end Sys2Proof.Machine
end

section
/-!
The family of 40_huffman_tree.md. A path ends at its first leaf, so of two paths along one bit string that both arrive at a
leaf neither goes on past the other; with the completeness of the code (30_encoding.md) this makes the tree the trie of the
table. For the validation of the ROM image it is enough to find every leaf and every internal node but the root in some
field: there are as many fields as those.
-/

namespace Sys2Proof.Machine

/-! ### Paths to a leaf -/

/-- The empty path stays at an internal node. -/
theorem walkFrom_nil_ne_leaf {i : NodeId} {sym : Nat} : walkFrom i [] ≠ some (.leaf sym) := by
  simp [walkFrom]

/-- A path to a leaf is its last edge, or goes on from an internal node. -/
theorem walkFrom_cons_eq_leaf {i : NodeId} {b : Bool} {bits : List Bool} {sym : Nat} :
    walkFrom i (b :: bits) = some (.leaf sym) ↔
      (nextChild i b = .leaf sym ∧ bits = []) ∨ ∃ j, nextChild i b = .node j ∧ walkFrom j bits = some (.leaf sym) := by
  rw [walkFrom]
  cases nextChild i b with
  | node j => simp
  | leaf k => by_cases hb : bits = [] <;> simp [hb]

/-- No path to a leaf goes on past a leaf. -/
theorem eq_nil_of_walkFrom_append {i : NodeId} {xs zs : List Bool} {a b : Nat} (hx : walkFrom i xs = some (.leaf a))
    (h : walkFrom i (xs ++ zs) = some (.leaf b)) : zs = [] := by
  induction xs generalizing i with
  | nil => exact absurd hx walkFrom_nil_ne_leaf
  | cons c xs ih =>
    obtain ⟨hleaf, hend⟩ | ⟨j, hnode, hrest⟩ := walkFrom_cons_eq_leaf.1 h
    · exact (List.append_eq_nil_iff.1 hend).2
    · obtain ⟨hleaf, _⟩ | ⟨k, hnode', hxs⟩ := walkFrom_cons_eq_leaf.1 hx
      · rw [hnode] at hleaf
        cases hleaf
      · rw [hnode] at hnode'
        cases hnode'
        exact ih hxs hrest

/-- A leaf at the end of a path stands in a child field, that of the path's last edge. -/
theorem exists_nextChild_of_walkFrom {i : NodeId} {bits : List Bool} {sym : Nat}
    (h : walkFrom i bits = some (.leaf sym)) : ∃ j b, nextChild j b = .leaf sym := by
  induction bits generalizing i with
  | nil => exact absurd h walkFrom_nil_ne_leaf
  | cons b bits ih =>
    obtain ⟨hleaf, _⟩ | ⟨j, _, hrest⟩ := walkFrom_cons_eq_leaf.1 h
    · exact ⟨i, b, hleaf⟩
    · exact ih hrest

/-! ### The tree and the code table -/

/-- The table's codes, walked through the ROM image one by one. -/
theorem walkFrom_row_bits : ∀ r ∈ hufRows, walkFrom root r.bits = some (.leaf r.symbol) := by
  decide +kernel

/-- A path to a leaf is the code of the leaf's row: filled up to MAXLEN bits it begins with the code of some row, and both
that code and the path arrive at a leaf. -/
theorem exists_row_of_walkFrom {bits : List Bool} {sym : Nat} (h : walkFrom root bits = some (.leaf sym)) :
    ∃ r ∈ hufRows, r.symbol = sym ∧ r.bits = bits := by
  obtain ⟨r, ⟨hr, hprefix⟩, _⟩ :=
    existsUnique_row_prefix (bits := bits ++ List.replicate Config.maxLen true) (by simp)
  have hwalk := walkFrom_row_bits r hr
  have hbits : r.bits = bits := by
    obtain ⟨zs, rfl⟩ | ⟨zs, hzs⟩ := List.prefix_or_prefix_of_prefix hprefix (List.prefix_append bits _)
    · rw [eq_nil_of_walkFrom_append hwalk h, List.append_nil]
    · rw [← hzs] at hwalk ⊢
      rw [eq_nil_of_walkFrom_append h hwalk, List.append_nil]
  rw [hbits, h] at hwalk
  cases hwalk
  exact ⟨r, hr, rfl, hbits⟩

/-- Settles O6: the codes walk to their leaves, and no other path arrives at a leaf since the code is complete. -/
theorem treeIsTheTrieOfTheCodeTable : Obligations.TreeIsTheTrieOfTheCodeTable :=
  ⟨walkFrom_row_bits, fun _ _ => exists_row_of_walkFrom⟩

/-- The symbols with the shortest and with the longest codes (R99). -/
theorem row_length_extremes :
    ∀ r ∈ hufRows, (r.length = 5 ↔ r.symbol ∈ [48, 49, 50, 97, 99, 101, 105, 111, 115, 116]) ∧
      (r.length = 30 ↔ r.symbol ∈ [10, 13, 22, 256]) := by
  decide +kernel

/-- Settles O8: the depth of a leaf is the length of its row's code. -/
theorem leafDepthsAreFiveToThirty : Obligations.LeafDepthsAreFiveToThirty := by
  intro bits sym h
  obtain ⟨r, hr, rfl, rfl⟩ := exists_row_of_walkFrom h
  obtain ⟨hmin, hmax, _⟩ := row_length_code r hr
  rw [row_bits_length]
  exact ⟨hmin, hmax, row_length_extremes r hr⟩

/-! ### The all-ones path -/

/-- Bit 1 leads from each node of the all-ones path to the next one. -/
theorem nextChild_allOnesPath :
    ∀ k < 29, (allOnesPath[k]?).map (nextChild · true) = (allOnesPath[k + 1]?).map Child.node := by
  decide

theorem walkFrom_ones {k : Nat} (h : k < 30) :
    walkFrom root (List.replicate k true) = allOnesPath[k]?.map Child.node := by
  induction k with
  | zero => rfl
  | succ k ih =>
    have hlt : k < allOnesPath.length := Nat.lt_of_succ_lt h
    have hwalk := ih hlt
    have hedge := nextChild_allOnesPath k (Nat.lt_of_succ_lt_succ h)
    rw [List.getElem?_eq_getElem hlt, Option.map_some] at hwalk hedge
    rw [List.replicate_succ', walkFrom_append_bit hwalk, hedge]

/-- Settles O7, by following the path one edge at a time. -/
theorem allOnesPathEndsInEos : Obligations.AllOnesPathEndsInEos := by
  refine ⟨rfl, fun k hk => walkFrom_ones hk, ?_, by decide⟩
  have hlast : walkFrom root (List.replicate 29 true) = some (.node 59#8) := walkFrom_ones (by decide)
  have heos : nextChild 59#8 true = .leaf Config.eos := by decide
  rw [List.replicate_succ', walkFrom_append_bit hlast, heos]

/-! ### The child fields of the ROM image -/

/-- The 512 child fields, entry by entry. -/
def childFields : List Child :=
  (List.range 256).flatMap fun i => [nextChild (BitVec.ofNat 8 i) false, nextChild (BitVec.ofNat 8 i) true]

/-- The nodes that have a parent: every leaf, and every internal node but the root. -/
def childNodes : List Child :=
  (List.range 257).map Child.leaf ++ (List.range' 1 255).map fun i => Child.node (BitVec.ofNat 8 i)

theorem mem_childFields {c : Child} : c ∈ childFields ↔ ∃ i b, nextChild i b = c := by
  simp only [childFields, List.mem_flatMap, List.mem_range, List.mem_cons, List.not_mem_nil, or_false]
  constructor
  · rintro ⟨i, _, rfl | rfl⟩
    · exact ⟨_, _, rfl⟩
    · exact ⟨_, _, rfl⟩
  · rintro ⟨i, b, rfl⟩
    refine ⟨i.toNat, i.isLt, ?_⟩
    rw [BitVec.ofNat_toNat, BitVec.setWidth_eq]
    cases b <;> simp

theorem childFields_length : childFields.length = 512 := by
  simp only [childFields, List.length_flatMap, List.length_cons, List.length_nil, List.map_const', List.sum_replicate,
    List.length_range, smul_eq_mul]

theorem childNodes_length : childNodes.length = 512 := by
  simp [childNodes]

theorem leaf_mem_childNodes {sym : Nat} : Child.leaf sym ∈ childNodes ↔ sym ≤ 256 := by
  simp [childNodes, Nat.lt_succ_iff]

/-- Indices below 256 are told apart by their node. -/
theorem node_ofNat_inj {i j : Nat} (hi : i < 256) (hj : j < 256) :
    Child.node (BitVec.ofNat 8 i) = .node (BitVec.ofNat 8 j) ↔ i = j := by
  rw [Child.node.injEq, ← BitVec.toNat_inj, BitVec.toNat_ofNat, BitVec.toNat_ofNat, Nat.mod_eq_of_lt hi,
    Nat.mod_eq_of_lt hj]

theorem node_mem_childNodes {i : Nat} (h : i < 256) : Child.node (BitVec.ofNat 8 i) ∈ childNodes ↔ i ≠ 0 := by
  simp only [childNodes, List.mem_append, List.mem_map, List.mem_range'_1, reduceCtorEq, and_false, exists_false, false_or]
  constructor
  · rintro ⟨j, hj, he⟩
    rw [node_ofNat_inj (by omega) h] at he
    omega
  · exact fun hne => ⟨i, by omega, rfl⟩

theorem childNodes_nodup : childNodes.Nodup := by
  refine List.Nodup.append (List.nodup_range.map fun _ _ => Child.leaf.inj) (List.Nodup.map_on ?_ List.nodup_range') ?_
  · intro i hi j hj
    rw [List.mem_range'_1] at hi hj
    exact (node_ofNat_inj (by omega) (by omega)).1
  · simp [List.disjoint_left]

/-- The index of an internal node. -/
def Child.index? : Child → Option Nat
  | .leaf _ => none
  | .node i => some i.toNat

/-- Every index but the root's is found in the ROM image. -/
theorem index_mem_childFields : ∀ i < 256, i ≠ 0 → i ∈ childFields.filterMap Child.index? := by
  decide +kernel

/-- Every internal node but the root has a parent. -/
theorem node_mem_childFields {i : Nat} (h : i < 256) (hne : i ≠ 0) : Child.node (BitVec.ofNat 8 i) ∈ childFields := by
  obtain ⟨c, hc, hi⟩ := List.mem_filterMap.1 (index_mem_childFields i h hne)
  cases c with
  | leaf sym => cases hi
  | node j =>
    cases hi
    rwa [BitVec.ofNat_toNat, BitVec.setWidth_eq]

/-- Every symbol has a leaf, where the path of its code ends. -/
theorem leaf_mem_childFields {sym : Nat} (h : sym ≤ 256) : Child.leaf sym ∈ childFields := by
  obtain ⟨r, ⟨hr, rfl⟩, _⟩ := codeIsPrefixFreeAndComplete.2.2 sym h
  exact mem_childFields.2 (exists_nextChild_of_walkFrom (walkFrom_row_bits r hr))

/-- The fields hold the nodes that have a parent, each once: all of them occur, and there are no more fields than nodes. -/
theorem childFields_perm : childNodes.Perm childFields := by
  have hsub : childNodes ⊆ childFields := fun c hc => by
    rw [childNodes, List.mem_append, List.mem_map, List.mem_map] at hc
    obtain ⟨sym, hsym, rfl⟩ | ⟨i, hi, rfl⟩ := hc
    · exact leaf_mem_childFields (Nat.lt_succ_iff.1 (List.mem_range.1 hsym))
    · rw [List.mem_range'_1] at hi
      exact node_mem_childFields (by omega) (by omega)
  refine (childNodes_nodup.subperm hsub).perm_of_length_le ?_
  rw [childFields_length, childNodes_length]

theorem count_childFields (c : Child) : childFields.count c = if c ∈ childNodes then 1 else 0 := by
  rw [← childFields_perm.count_eq, childNodes_nodup.count]

/-- Settles O9: the fields hold each leaf and each internal node but the root once. -/
theorem romImagePassesItsValidation : Obligations.RomImagePassesItsValidation := by
  refine ⟨fun sym hsym => ?_, fun sym hsym => ?_, fun i hi => ?_⟩
  · exact leaf_mem_childNodes.1 (childFields_perm.mem_iff.2 hsym)
  · exact (count_childFields _).trans (if_pos (leaf_mem_childNodes.2 hsym))
  · refine (count_childFields _).trans ?_
    simp only [node_mem_childNodes hi, ite_not]

end Sys2Proof.Machine
end

section
/-!
The family of 41_bitreader.md. A read follows the tree from the current node: along the unread bits it arrives at a leaf
(`readLeaf`) or at the end of the view (`endRead`), never both; the height of the tree bounds it (`leavesWithin`). A
Huffman body is a sequence of such reads: first the symbols it begins with (`State.PastSymbols`), then one that raises.
-/

namespace Sys2Proof.Machine

/-! ### The context -/

/-- Settles O24. -/
theorem bropenOpensTheView : Obligations.BropenOpensTheView := by
  refine fun s he => ⟨fun ho hl => ?_, fun ho hl => ?_, fun ho => ?_, runCommand_of_decode rfl⟩
  · have hopen : openContext (byteLength s) s = .done () (s.openView (byteLength s)) := if_neg (Nat.not_lt.2 hl)
    have hlim : BitVec.ofNat 64 (s.pos.toNat + s.arg.toNat) = s.pos + s.arg := rfl
    rw [exec_bropen_of_ok he, if_neg (by simp [ho]), hopen, ← hlim]
    rfl
  · have hopen : openContext (byteLength s) s = .raised .strTruncated s := if_pos hl
    rw [exec_bropen_of_ok he, if_neg (by simp [ho]), hopen, Proc.commit_raised]
  · rw [exec_bropen_of_ok he, if_pos ho]

/-- Settles O25. -/
theorem brcloseDiscardsTheReader : Obligations.BrcloseDiscardsTheReader := by
  refine fun s he => ⟨fun ho => ?_, fun ho => ?_, runCommand_of_decode rfl⟩
  · rw [exec_brclose_of_ok he, if_pos ho]
    rfl
  · rw [exec_brclose_of_ok he, if_neg (by simp [ho])]

/-! ### The height of the tree -/

/-- Every path from node `i` has arrived at a leaf after at most `n` edges. -/
def leavesWithin : Nat → NodeId → Bool
  | 0, _ => false
  | n + 1, i =>
    [false, true].all fun b =>
      match nextChild i b with
      | .node j => leavesWithin n j
      | .leaf _ => true

theorem leavesWithin_of_edge {n : Nat} {i j : NodeId} {b : Bool} (h : leavesWithin (n + 1) i = true)
    (hb : nextChild i b = .node j) : leavesWithin n j = true := by
  have hedge := List.all_eq_true.1 h b (by cases b <;> simp)
  rwa [hb] at hedge

/-- The height of the ROM image is MAXLEN (R128). -/
theorem leavesWithin_maxLen : ∀ i : NodeId, leavesWithin Config.maxLen i = true := by
  decide +kernel

theorem walkFrom_cons_eq_node {i j : NodeId} {b : Bool} {bits : List Bool} :
    walkFrom i (b :: bits) = some (.node j) ↔ ∃ k, nextChild i b = .node k ∧ walkFrom k bits = some (.node j) := by
  rw [walkFrom]
  cases nextChild i b with
  | node k => simp
  | leaf sym => by_cases hb : bits = [] <;> simp [hb]

/-- A path that is still at an internal node is shorter than the tree is high. -/
theorem length_lt_of_walkFrom {n : Nat} {i j : NodeId} {bits : List Bool} (h : leavesWithin n i = true)
    (hw : walkFrom i bits = some (.node j)) : bits.length < n := by
  induction n generalizing i bits with
  | zero => cases h
  | succ n ih =>
    cases bits with
    | nil => exact Nat.succ_pos n
    | cons b bits =>
      obtain ⟨k, hb, hk⟩ := walkFrom_cons_eq_node.1 hw
      exact Nat.succ_lt_succ (ih (leavesWithin_of_edge h hb) hk)

/-- A micro-step stops where IN has no byte, ends the view, or descends from the current node (R141). -/
theorem bitStep_cases (s : State) :
    bitStep s = .fault .noSuchInputByte ∨ bitStep s = endOfView s ∨
    ∃ b u, u.node = s.node ∧ bitStep s = descend b u := by
  unfold bitStep
  obtain ⟨_, _, h⟩ | ⟨_, _, _, h⟩ | ⟨_, h⟩ | ⟨_, _, h⟩ := takeBit_cases s <;> rw [h]
  · exact .inr (.inl rfl)
  · exact .inr (.inr ⟨_, (s.pullByte _).shiftBit, rfl, rfl⟩)
  · exact .inr (.inr ⟨_, s.shiftBit, rfl, rfl⟩)
  · exact .inl rfl

/-- As many micro-steps as the tree is high below the current node are enough. -/
theorem bitLoop_ne_bound {n : Nat} {s : State} (h : leavesWithin n s.node = true) :
    bitLoop n s ≠ .fault .bitStepBound := by
  induction n generalizing s with
  | zero => cases h
  | succ n ih =>
    rw [bitLoop]
    obtain hstep | hstep | ⟨b, u, hnode, hstep⟩ := bitStep_cases s <;> rw [hstep]
    · simp
    · obtain ⟨_, he⟩ | ⟨_, he⟩ := endOfView_cases s <;> simp [he]
    · obtain ⟨i, hi, hd⟩ | ⟨_, hd⟩ | ⟨_, _, _, hd⟩ := descend_cases b u <;> rw [hd]
      · exact ih (leavesWithin_of_edge h (hnode ▸ hi))
      · simp
      · simp

/-- Settles O28: every node has its leaves within MAXLEN edges. -/
theorem readNextStaysWithinItsBound : Obligations.ReadNextStaysWithinItsBound :=
  fun s => bitLoop_ne_bound (leavesWithin_maxLen s.node)

/-! ### The end of the view -/

/-- A tail is a clean end exactly if it is at most seven ones (R146). -/
theorem State.TailBits.cleanEnd_iff {s : State} {tail : List Bool} (h : s.TailBits tail) :
    cleanEnd s = true ↔ ∃ k, k ≤ 7 ∧ tail = List.replicate k true := by
  have hcount := h.count
  rw [cleanEnd, Bool.and_eq_true, decide_eq_true_eq, h.allOnes]
  constructor
  · rintro ⟨hle, hones⟩
    refine ⟨tail.length, by omega, List.eq_replicate_iff.2 ⟨rfl, fun b hb => ?_⟩⟩
    exact List.all_eq_true.1 hones b hb
  · rintro ⟨k, hk, rfl⟩
    rw [List.length_replicate] at hcount
    exact ⟨by omega, by simp⟩

/-- The end of the view as the outcome of a read (R142, R146). -/
def endRead (s : State) : Proc (Option Byte) := if cleanEnd s then .done none s else .raised .hufBadTail s

section
variable {s : State} {tail : List Bool}

theorem endRead_clean (h : s.TailBits tail) (hk : ∃ k, k ≤ 7 ∧ tail = List.replicate k true) :
    endRead s = .done none s :=
  if_pos (h.cleanEnd_iff.2 hk)

theorem endRead_bad (h : s.TailBits tail) (hk : ∀ k, k ≤ 7 → tail ≠ List.replicate k true) :
    endRead s = .raised .hufBadTail s :=
  if_neg fun hc =>
    have ⟨k, hle, he⟩ := h.cleanEnd_iff.1 hc
    hk k hle he

theorem bitStep_at_end (hm : s.mask = 0#8) (he : s.pos = s.lim) : bitStep s = endOfView s := by
  have htake : takeBit s = .done none s := by rw [takeBit, if_pos hm, State.peek, if_pos he]
  rw [bitStep, htake, Proc.bind_done]

end

/-- Settles O27. -/
theorem endOfTheViewIsCleanOrBadTail : Obligations.EndOfTheViewIsCleanOrBadTail := by
  intro s tail hm he htail
  rw [bitStep_at_end hm he, endOfView]
  refine ⟨fun hk => if_pos (htail.cleanEnd_iff.2 hk), fun hk => if_neg fun hc => ?_⟩
  obtain ⟨k, hle, htl⟩ := htail.cleanEnd_iff.1 hc
  exact hk k hle htl

/-! ### The cursor inside the view -/

section
variable {s : State}

theorem unreadBits_le : ∀ m : BitVec 8, unreadBits m ≤ 8 := by decide

theorem flatMap_byteBits_length (bs : List Byte) : (bs.flatMap byteBits).length = 8 * bs.length := by
  simp [List.length_flatMap, byteBits, Nat.mul_comm]

/-- The unread bits reach from the cursor to the end of the view. -/
theorem State.ReaderInv.bitCursor_add (h : s.ReaderInv) : s.bitCursor + s.viewBits.length = 8 * s.lim.toNat := by
  have hpos := h.view.posLim
  have hbytes : (s.inp.bytes s.pos.toNat s.bytesLeft).length = s.bytesLeft :=
    Memory.bytes_length (by have := h.view.limLen; rw [State.bytesLeft]; omega)
  have hunread : unreadBits s.mask ≤ 8 * s.pos.toNat := by
    by_cases hm : s.mask = 0
    · simp [hm, unreadBits]
    · have := (h.curPulled hm).1
      have := unreadBits_le s.mask
      omega
  have hview : s.viewBits.length = unreadBits s.mask + 8 * s.bytesLeft := by
    rw [State.viewBits, List.length_append, codeBits_length, flatMap_byteBits_length, hbytes]
  rw [hview, State.bitCursor, State.bytesLeft]
  omega

theorem State.bitCursor_atCursor {c : Nat} (hc : c ≤ 8 * s.lim.toNat) : (s.atCursor c).bitCursor = c := by
  have hlim := s.lim.isLt
  have hpos : (s.atCursor c).pos.toNat = (c + 7) / 8 := by
    rw [State.atCursor, BitVec.toNat_ofNat]
    omega
  have hmask : unreadBits (s.atCursor c).mask = if c % 8 = 0 then 0 else 8 - c % 8 := by
    have hall : ∀ o < 8, unreadBits (if o = 0 then 0#8 else 0x80#8 >>> o) = if o = 0 then 0 else 8 - o := by decide
    exact hall (c % 8) (Nat.mod_lt _ (by decide))
  rw [State.bitCursor, hpos, hmask]
  split <;> omega

/-- Past the first unread bit the reader is within its invariants again, the bits after it unread. -/
theorem State.ReaderInv.pastBit {b : Bool} {bits : List Bool} (h : s.ReaderInv) (ho : s.isOpen = true)
    (hv : s.viewBits = b :: bits) :
    takeBit s = .done (some b) (s.atCursor (s.bitCursor + 1)) ∧ (s.atCursor (s.bitCursor + 1)).ReaderInv ∧
      (s.atCursor (s.bitCursor + 1)).viewBits = bits ∧
      (s.atCursor (s.bitCursor + 1)).bitCursor = s.bitCursor + 1 := by
  obtain ⟨htake, hbits⟩ := takeBit_of_viewBits_cons h hv
  have hreached := takeBit_leads ho
  rw [htake] at hreached
  obtain ⟨hinv, _⟩ := Reached.safe hreached h
  have htotal := h.bitCursor_add
  rw [hv, List.length_cons] at htotal
  exact ⟨htake, hinv, hbits, State.bitCursor_atCursor (by omega)⟩

/-- Past the first of the unread bits, one or more, the rest is unread. -/
theorem State.ReaderInv.viewBits_atCursor {bits rest : List Bool} (h : s.ReaderInv) (ho : s.isOpen = true)
    (hne : bits ≠ []) (hv : s.viewBits = bits ++ rest) :
    (s.atCursor (s.bitCursor + bits.length)).viewBits = rest := by
  induction bits generalizing s with
  | nil => exact absurd rfl hne
  | cons b bits ih =>
    obtain ⟨_, hinv, hbits, hcursor⟩ := h.pastBit ho hv
    cases bits with
    | nil => exact hbits
    | cons c bits =>
      have hrest := ih hinv ho (by simp) hbits
      rwa [hcursor, Nat.add_assoc, Nat.add_comm 1] at hrest

/-! ### A read that arrives at a leaf -/

/-- A read that arrives at the leaf of `sym`: back to the root, with the symbol or HUF_EOS (R141, R145). -/
def readLeaf (sym : Nat) (s : State) : Proc (Option Byte) :=
  if sym = Config.eos then .raised .hufEos s.toRoot else .done (some (BitVec.ofNat 8 sym)) s.toRoot

theorem readLeaf_eos (s : State) : readLeaf Config.eos s = .raised .hufEos s.toRoot := if_pos rfl

theorem readLeaf_symbol {sym : Nat} (h : sym < 256) (s : State) :
    readLeaf sym s = .done (some (BitVec.ofNat 8 sym)) s.toRoot :=
  if_neg (Nat.ne_of_lt h)

/-- The last edge of a read: whatever would follow CONTINUE or END, the read is over. -/
theorem descend_leaf {sym : Nat} {b : Bool} {k : BitResult → State → Proc (Option Byte)}
    (hb : nextChild s.node b = .leaf sym) (hk : ∀ v t, k (.symbol v) t = .done (some v) t) :
    (descend b s).bind k = readLeaf sym s := by
  rw [descend, hb, readLeaf]
  by_cases he : sym = Config.eos
  · simp [he]
  · simp [he, hk]

theorem descend_node {b : Bool} {i : NodeId} (hb : nextChild s.node b = .node i) :
    descend b s = .done .goOn (s.countBit b i) := by
  rw [descend, hb]

theorem codeStep_of_take {b c : Bool} {t : State} (h : takeBit s = .done (some b) t) : codeStep c s = descend c t := by
  rw [codeStep, h, Proc.bind_done]

theorem bitStep_of_take {b : Bool} {t : State} (h : takeBit s = .done (some b) t) : bitStep s = descend b t := by
  rw [bitStep, h, Proc.bind_done]

/-- A code word with enough bits left is walked to its leaf, as many bits consumed as it has. -/
theorem walkCode_of_walkFrom {code : List Bool} {sym : Nat} (h : s.ReaderInv) (ho : s.isOpen = true)
    (hw : walkFrom s.node code = some (.leaf sym)) (hlen : code.length ≤ s.viewBits.length) :
    walkCode code s = readLeaf sym (s.atCursor (s.bitCursor + code.length)) := by
  induction code generalizing s with
  | nil => exact absurd hw walkFrom_nil_ne_leaf
  | cons c cs ih =>
    obtain ⟨b, bits, hv⟩ := List.exists_cons_of_length_pos (Nat.lt_of_lt_of_le (Nat.succ_pos _) hlen)
    obtain ⟨htake, hinv, hbits, hcursor⟩ := h.pastBit ho hv
    rw [walkCode, codeStep_of_take htake]
    obtain ⟨hleaf, rfl⟩ | ⟨j, hnode, hrest⟩ := walkFrom_cons_eq_leaf.1 hw
    · exact descend_leaf hleaf fun _ _ => rfl
    · rw [descend_node (s := s.atCursor (s.bitCursor + 1)) hnode, Proc.bind_done]
      have hview : ((s.atCursor (s.bitCursor + 1)).countBit c j).viewBits = bits := hbits
      have hcur : ((s.atCursor (s.bitCursor + 1)).countBit c j).bitCursor = s.bitCursor + 1 := hcursor
      have hlen' : cs.length ≤ bits.length := by simpa [hv] using hlen
      refine (ih (hinv.countBit ho hnode) ho hrest (hview ▸ hlen')).trans ?_
      rw [hcur, Nat.add_assoc, Nat.add_comm 1]
      rfl

/-- The bit-serial read of a stream that holds a code is the walk of the code (log entry 5). -/
theorem bitLoop_eq_walkCode {n sym : Nat} {code rest : List Bool} (h : s.ReaderInv) (ho : s.isOpen = true)
    (hw : walkFrom s.node code = some (.leaf sym)) (hn : code.length ≤ n) (hv : s.viewBits = code ++ rest) :
    bitLoop n s = walkCode code s := by
  induction code generalizing s n with
  | nil => exact absurd hw walkFrom_nil_ne_leaf
  | cons c cs ih =>
    cases n with
    | zero => cases hn
    | succ n =>
      obtain ⟨htake, hinv, hbits, _⟩ := h.pastBit ho hv
      rw [bitLoop, walkCode, bitStep_of_take htake, codeStep_of_take htake]
      obtain ⟨hleaf, rfl⟩ | ⟨j, hnode, hrest⟩ := walkFrom_cons_eq_leaf.1 hw
      · have hread := fun k => descend_leaf (s := s.atCursor (s.bitCursor + 1)) (k := k) hleaf
        exact (hread _ fun _ _ => rfl).trans (hread _ fun _ _ => rfl).symm
      · rw [descend_node (s := s.atCursor (s.bitCursor + 1)) hnode]
        exact ih (hinv.countBit ho hnode) ho hrest (Nat.le_of_succ_le_succ hn) hbits

/-! ### A read that arrives at the end of the view -/

/-- The state at the end of the view, `tail` being consumed since the last symbol and leading to node `j`. -/
def State.atViewEnd (s : State) (tail : List Bool) (j : NodeId) : State :=
  { s with
    pos := s.lim, cur := 0, mask := 0, node := j, tail := BitVec.ofNat 4 (min tail.length 8), ones := tail.all id }

theorem State.atViewEnd_tailBits {tail : List Bool} {j : NodeId} (hw : walkFrom root tail = some (.node j)) :
    (s.atViewEnd tail j).TailBits tail where
  walk := hw
  count := by
    rw [State.atViewEnd, BitVec.toNat_ofNat]
    omega
  allOnes := rfl

/-- With no unread bit the reader is at the end of the view. -/
theorem State.ReaderInv.at_end_of_viewBits_nil (h : s.ReaderInv) (hv : s.viewBits = []) :
    s.mask = 0#8 ∧ s.pos = s.lim := by
  obtain ⟨hm, he, _⟩ | ⟨b, hm, hlt, hr, _⟩ | ⟨k, hk⟩ := h.cursor_cases
  · exact ⟨hm, he⟩
  · rw [← State.pullByte_viewBits hm hlt hr, (State.pullByte_pending hlt hr).viewBits] at hv
    cases hv
  · rw [hk.viewBits] at hv
    cases hv

theorem State.ReaderInv.atViewEnd_eq {tail : List Bool} (h : s.ReaderInv) (ht : s.TailBits tail)
    (hv : s.viewBits = []) : s.atViewEnd tail s.node = s := by
  obtain ⟨hm, he⟩ := h.at_end_of_viewBits_nil hv
  have htail : BitVec.ofNat 4 (min tail.length 8) = s.tail := by
    rw [← ht.count, BitVec.ofNat_toNat, BitVec.setWidth_eq]
  have hcur := h.curCleared hm
  have hones := ht.allOnes
  cases s
  simp_all [State.atViewEnd]

theorem State.TailBits.atCursor {tail : List Bool} (h : s.TailBits tail) (c : Nat) : (s.atCursor c).TailBits tail :=
  ⟨h.walk, h.count, h.allOnes⟩

/-- Where the unread bits lead to an internal node, all of them join the tail, and the view ends (R146). -/
theorem bitLoop_to_end {n : Nat} {tail bits : List Bool} {j : NodeId} (h : s.ReaderInv) (ho : s.isOpen = true)
    (ht : s.TailBits tail) (hv : s.viewBits = bits) (hw : walkFrom s.node bits = some (.node j))
    (hn : bits.length < n) : bitLoop n s = endRead (s.atViewEnd (tail ++ bits) j) := by
  induction bits generalizing s n tail with
  | nil =>
    cases hw
    obtain ⟨n, rfl⟩ := Nat.exists_eq_add_one_of_ne_zero (Nat.ne_zero_of_lt hn)
    obtain ⟨hm, he⟩ := h.at_end_of_viewBits_nil hv
    rw [List.append_nil, h.atViewEnd_eq ht hv, bitLoop, bitStep_at_end hm he, endOfView, endRead]
    split <;> rfl
  | cons b bits ih =>
    obtain ⟨n, rfl⟩ := Nat.exists_eq_add_one_of_ne_zero (Nat.ne_zero_of_lt hn)
    obtain ⟨htake, hinv, hbits, _⟩ := h.pastBit ho hv
    obtain ⟨i, hnode, hrest⟩ := walkFrom_cons_eq_node.1 hw
    have ht' := (ht.atCursor (s.bitCursor + 1)).countBit (b := b) hnode
    rw [bitLoop, bitStep_of_take htake, descend_node (s := s.atCursor (s.bitCursor + 1)) hnode]
    refine (ih (hinv.countBit ho hnode) ho ht' hbits hrest (Nat.lt_of_succ_lt_succ hn)).trans ?_
    rw [List.append_assoc]
    rfl

theorem walkFrom_append {i j : NodeId} {tail : List Bool} (h : walkFrom i tail = some (.node j)) (bits : List Bool) :
    walkFrom i (tail ++ bits) = walkFrom j bits := by
  induction tail generalizing i with
  | nil =>
    cases h
    rfl
  | cons b tail ih =>
    obtain ⟨k, hb, hk⟩ := walkFrom_cons_eq_node.1 h
    rw [List.cons_append, walkFrom, hb]
    exact ih hk

/-- readNext on a tail that completes no symbol (R142, R146). -/
theorem readNext_to_end {tail : List Bool} {j : NodeId} (h : s.ReaderInv) (ho : s.isOpen = true)
    (ht : s.TailBits tail) (hw : walkFrom root (tail ++ s.viewBits) = some (.node j)) :
    readNext s = endRead (s.atViewEnd (tail ++ s.viewBits) j) := by
  have hw' : walkFrom s.node s.viewBits = some (.node j) := (walkFrom_append ht.walk _).symm.trans hw
  exact bitLoop_to_end h ho ht rfl hw' (length_lt_of_walkFrom (leavesWithin_maxLen s.node) hw')

end

/-! ### RDSYM and the code words -/

theorem exists_row_of_symbol {sym : Nat} (h : sym ≤ Config.eos) :
    ∃ r ∈ hufRows, r.symbol = sym ∧ hufCode sym = r.bits := by
  obtain ⟨r, ⟨hr, rfl⟩, _⟩ := codeIsPrefixFreeAndComplete.2.2 sym h
  exact ⟨r, hr, rfl, hufCode_of_row hr⟩

theorem row_bits_ne_nil {r : HufRow} (hr : r ∈ hufRows) : r.bits ≠ [] := by
  obtain ⟨hmin, _, _⟩ := row_length_code r hr
  rw [← List.length_pos_iff, row_bits_length]
  exact Nat.lt_of_lt_of_le (by decide) hmin

/-- The bits are those of the row found, followed by the bits left. -/
theorem decodeCode_eq_some {bits rest : List Bool} {r : HufRow} (h : decodeCode bits = some (r, rest)) :
    r ∈ hufRows ∧ bits = r.bits ++ rest := by
  unfold decodeCode at h
  split at h
  · next q hq =>
    cases h
    have hprefix : r.bits.isPrefixOf bits = true := List.find?_some (p := fun q : HufRow => q.bits.isPrefixOf bits) hq
    obtain ⟨rest, rfl⟩ := List.isPrefixOf_iff_prefix.1 hprefix
    exact ⟨List.mem_of_find?_eq_some hq, by rw [List.drop_left' (row_bits_length r)]⟩
  · cases h

section
variable {s : State}

/-- At a symbol boundary the reader is at the root (R24). -/
theorem State.TailBits.boundary (ht : s.TailBits []) : s.node = root ∧ s.tail = 0 ∧ s.ones = true := by
  obtain ⟨hwalk, hcount, hones⟩ := ht
  rw [walkFrom, Option.some.injEq, Child.node.injEq] at hwalk
  exact ⟨hwalk.symm, BitVec.eq_of_toNat_eq hcount, hones⟩

theorem State.TailBits.toRoot_eq (ht : s.TailBits []) : s.toRoot = s := by
  obtain ⟨hnode, htail, hones⟩ := ht.boundary
  rw [State.toRoot, ← hnode, ← htail, ← hones]

/-- The code of a row, read at a symbol boundary with enough bits left. -/
theorem walkCode_row {r : HufRow} (hr : r ∈ hufRows) (h : s.ReaderInv) (ho : s.isOpen = true) (ht : s.TailBits [])
    (hlen : r.length ≤ s.viewBits.length) :
    walkCode r.bits s = readLeaf r.symbol (s.atCursor (s.bitCursor + r.length)) := by
  have hw : walkFrom s.node r.bits = some (.leaf r.symbol) := ht.boundary.1 ▸ walkFrom_row_bits r hr
  rw [walkCode_of_walkFrom h ho hw (by rwa [row_bits_length]), row_bits_length]

/-- At a symbol boundary readNext reads the code of the row that the stream holds (R141, R142). -/
theorem readNext_eq_walkCode {r : HufRow} {rest : List Bool} (hr : r ∈ hufRows) (h : s.ReaderInv)
    (ho : s.isOpen = true) (ht : s.TailBits []) (hv : s.viewBits = r.bits ++ rest) :
    readNext s = walkCode r.bits s := by
  have hw : walkFrom s.node r.bits = some (.leaf r.symbol) := ht.boundary.1 ▸ walkFrom_row_bits r hr
  obtain ⟨_, hmax, _⟩ := row_length_code r hr
  exact bitLoop_eq_walkCode h ho hw (by rwa [row_bits_length]) hv

/-- The code of a symbol at the head of the unread bits, read at a symbol boundary. -/
theorem readNext_of_code {sym : Nat} {rest : List Bool} (hsym : sym ≤ Config.eos) (h : s.ReaderInv)
    (ho : s.isOpen = true) (ht : s.TailBits []) (hv : s.viewBits = hufCode sym ++ rest) :
    readNext s = readLeaf sym (s.atCursor (s.bitCursor + (hufCode sym).length)) := by
  obtain ⟨r, hr, rfl, hcode⟩ := exists_row_of_symbol hsym
  rw [hcode] at hv ⊢
  rw [readNext_eq_walkCode hr h ho ht hv, walkCode_row hr h ho ht (by simp [hv, row_bits_length]), row_bits_length]

/-- The result of a read of a symbol (R143). -/
theorem readLeaf_commit_symbol {sym : Nat} (hsym : sym < 256) (ht : s.TailBits []) (c : Nat) :
    (readLeaf sym (s.atCursor c)).commit deliverSymbol =
      .next { s.atCursor c with rKind := .symbol, rVal := BitVec.ofNat 64 sym, rCnt := 0 } := by
  have hval : (BitVec.ofNat 8 sym).toNat = sym := by rw [BitVec.toNat_ofNat, Nat.mod_eq_of_lt hsym]
  rw [readLeaf_symbol hsym, (ht.atCursor c).toRoot_eq, Proc.commit_done, deliverSymbol, hval]
  rfl

/-- EOS is never returned (R145). -/
theorem readLeaf_commit_eos (ht : s.TailBits []) (c : Nat) :
    (readLeaf Config.eos (s.atCursor c)).commit deliverSymbol = .next ((s.atCursor c).raiseError .hufEos) := by
  rw [readLeaf_eos, (ht.atCursor c).toRoot_eq, Proc.commit_raised]

/-- However a read of a leaf ends, the bits after the cursor are unread. -/
theorem readLeaf_commit_viewBits {sym : Nat} (hsym : sym < 257) (ht : s.TailBits []) (c : Nat) :
    ∃ t, (readLeaf sym (s.atCursor c)).commit deliverSymbol = .next t ∧ t.viewBits = (s.atCursor c).viewBits := by
  obtain hlt | rfl := Nat.lt_succ_iff_lt_or_eq.1 hsym
  · exact ⟨_, readLeaf_commit_symbol hlt ht c, rfl⟩
  · exact ⟨_, readLeaf_commit_eos ht c, rfl⟩

end

theorem rdsym_word : decode (.command 0x50#8) = .ok .rdsym := rfl

/-- Where the stream holds a row's code, RDSYM is the code word of the row, and it leaves the bits after the code. -/
theorem exec_rdsym_of_row {s : State} {r : HufRow} {rest : List Bool} (hr : r ∈ hufRows) (h : s.ReaderInv)
    (he : s.err = false) (ho : s.isOpen = true) (ht : s.TailBits []) (hv : s.viewBits = r.bits ++ rest) :
    exec .rdsym s = exec r.instr s ∧ ∃ t, exec .rdsym s = .next t ∧ t.viewBits = rest := by
  obtain ⟨_, _, hsym⟩ := row_facts hr
  obtain ⟨t, hread, hview⟩ := readLeaf_commit_viewBits hsym ht (s.bitCursor + r.length)
  have hrest := h.viewBits_atCursor ho (row_bits_ne_nil hr) hv
  rw [row_bits_length] at hrest
  rw [exec_rdsym_of_ok he, exec_row_of_ok he hr, if_pos ho, if_pos ho, readNext_eq_walkCode hr h ho ht hv,
    walkCode_row hr h ho ht (by simp [hv, row_bits_length])]
  exact ⟨rfl, t, hread, hview.trans hrest⟩

/-- Settles O11: the bit-serial read of a row's code and the walk of the code are the same. -/
theorem stepRunsTheDecodedCodeWord : Obligations.StepRunsTheDecodedCodeWord := by
  intro s rest r bits hs he ho ht hq hd
  obtain ⟨hr, hv⟩ := decodeCode_eq_some hd
  have hstep : step s = exec .rdsym (s.withQueue rest) := (step_of_action hq).trans (runCommand_of_decode rdsym_word)
  rw [hstep]
  exact exec_rdsym_of_row hr (s := s.withQueue rest) hs.withHost.readerInv he ho ⟨ht.walk, ht.count, ht.allOnes⟩ hv

/-- Settles O29. -/
theorem rdsymReadsTheNextSymbol : Obligations.RdsymReadsTheNextSymbol := by
  intro s v rest hs he ho ht hv
  obtain ⟨r, hr, _, hcode⟩ := exists_row_of_symbol (Nat.le_of_lt v.isLt)
  have hne : hufCode v.toNat ≠ [] := hcode ▸ row_bits_ne_nil hr
  refine ⟨_, ?_, ?_, rfl⟩
  · rw [exec_rdsym_of_ok he, if_pos ho, readNext_of_code (Nat.le_of_lt v.isLt) hs.readerInv ho ht hv,
      readLeaf_commit_symbol v.isLt ht, BitVec.ofNat_toNat]
  · exact hs.readerInv.viewBits_atCursor ho hne hv

/-- Settles O32. -/
theorem codeWordsReportTheirSymbol : Obligations.CodeWordsReportTheirSymbol := by
  intro r hr hsym s hs he ho ht hlen
  rw [exec_row_of_ok he hr, if_pos ho, walkCode_row hr hs.readerInv ho ht hlen, readLeaf_commit_symbol hsym ht]

/-- The last row of the code table. -/
def eosRow : HufRow := ⟨.hufEos, 256, 30, 0x3fffffff⟩

theorem eosRow_mem : eosRow ∈ hufRows := by decide

/-- Settles O33. -/
theorem eosCodeRaisesHufEos : Obligations.EosCodeRaisesHufEos := by
  intro s hs he ho ht hlen
  have hexec : exec .hufEos s = _ := exec_row_of_ok he eosRow_mem
  rw [hexec, if_pos ho, walkCode_row eosRow_mem hs.readerInv ho ht hlen]
  exact readLeaf_commit_eos ht _

section
variable {s : State} {k : Nat}

theorem walkFrom_ones_eq_node (hk : k ≤ 7) :
    walkFrom root (List.replicate k true) = some (.node (BitVec.ofNat 8 k)) := by
  rw [walkFrom_ones (by omega), allOnesPathEndsInEos.2.2.2 k hk, Option.map_some]

/-- RDSYM at a clean end: the registers describe the ones, and the result is END (R143, R146). -/
theorem exec_rdsym_of_clean_end {tail : List Bool} (h : s.ReaderInv) (he : s.err = false) (ho : s.isOpen = true)
    (ht : s.TailBits tail) (hk : k ≤ 7) (hbits : tail ++ s.viewBits = List.replicate k true) :
    exec .rdsym s =
      .next ((s.atViewEnd (List.replicate k true) (BitVec.ofNat 8 k)).setResult .streamEnd 0 0) := by
  have hend := readNext_to_end h ho ht (hbits ▸ walkFrom_ones_eq_node hk)
  rw [hbits, endRead_clean (State.atViewEnd_tailBits (walkFrom_ones_eq_node hk)) ⟨k, hk, rfl⟩] at hend
  rw [exec_rdsym_of_ok he, if_pos ho, hend, Proc.commit_done, deliverSymbol]

theorem State.atViewEnd_ones (hk : k ≤ 7) (j : NodeId) :
    s.atViewEnd (List.replicate k true) j =
      { s with pos := s.lim, cur := 0, mask := 0, node := j, tail := BitVec.ofNat 4 k, ones := true } := by
  have hones : (List.replicate k true).all id = true := by simp
  rw [State.atViewEnd, hones, List.length_replicate, Nat.min_eq_left (by omega)]

end

/-- Settles O30: the `k` ones lead to node `k`, and at the end of the view they are still the tail. -/
theorem rdsymReportsACleanEnd : Obligations.RdsymReportsACleanEnd := by
  intro s tail k hs he ho ht hk hbits t
  have hnext : (s.atViewEnd (List.replicate k true) (BitVec.ofNat 8 k)).setResult .streamEnd 0 0 = t := by
    rw [State.atViewEnd_ones hk]
    rfl
  have hfirst := exec_rdsym_of_clean_end hs.readerInv he ho ht hk hbits
  obtain ⟨hinv, _⟩ := exec_keeps_inv hs hfirst
  rw [hnext] at hfirst hinv
  have ht' : t.TailBits (List.replicate k true) := by
    obtain ⟨hwalk, hcount, hones⟩ := State.atViewEnd_tailBits (s := s) (walkFrom_ones_eq_node hk)
    rw [← hnext]
    exact ⟨hwalk, hcount, hones⟩
  have hview : List.replicate k true ++ t.viewBits = List.replicate k true := by
    rw [State.viewBits_at_end rfl rfl, List.append_nil]
  have hagain := exec_rdsym_of_clean_end hinv.readerInv he ho ht' hk hview
  rw [State.atViewEnd_ones hk] at hagain
  exact ⟨hfirst, hagain⟩

/-- Settles O31. -/
theorem rdsymRejectsABadTail : Obligations.RdsymRejectsABadTail := by
  intro s tail j hs he ho ht hw hbad
  rw [exec_rdsym_of_ok he, if_pos ho, readNext_to_end hs.readerInv ho ht hw,
    endRead_bad (State.atViewEnd_tailBits hw) hbad, Proc.commit_raised]
  rfl

/-! ### A Huffman body that is no valid one -/

theorem stringBits_cons (v : Byte) (str : List Byte) : stringBits (v :: str) = hufCode v.toNat ++ stringBits str :=
  List.flatMap_cons

theorem hufCode_eos : hufCode Config.eos = List.replicate 30 true := by
  decide +kernel

theorem hufCode_length_ge {sym : Nat} (h : sym ≤ Config.eos) : 5 ≤ (hufCode sym).length := by
  obtain ⟨r, hr, _, hcode⟩ := exists_row_of_symbol h
  rw [hcode, row_bits_length]
  exact (row_length_code r hr).1

theorem stringBits_length_ge (str : List Byte) : 5 * str.length ≤ (stringBits str).length := by
  induction str with
  | nil => exact Nat.le_refl _
  | cons v str ih =>
    have := hufCode_length_ge (Nat.le_of_lt v.isLt)
    rw [stringBits_cons, List.length_append, List.length_cons]
    omega

/-- A path stays at internal nodes, or it begins with a path to a leaf. -/
theorem walkFrom_cases (i : NodeId) (bits : List Bool) :
    (∃ j, walkFrom i bits = some (.node j)) ∨
    ∃ code rest sym, bits = code ++ rest ∧ walkFrom i code = some (.leaf sym) := by
  induction bits generalizing i with
  | nil => exact .inl ⟨i, rfl⟩
  | cons b bits ih =>
    cases hb : nextChild i b with
    | leaf sym => exact .inr ⟨[b], bits, sym, rfl, walkFrom_cons_eq_leaf.2 (.inl ⟨hb, rfl⟩)⟩
    | node k =>
      obtain ⟨j, hj⟩ | ⟨code, rest, sym, rfl, hcode⟩ := ih k
      · exact .inl ⟨j, walkFrom_cons_eq_node.2 ⟨k, hb, hj⟩⟩
      · exact .inr ⟨b :: code, rest, sym, rfl, walkFrom_cons_eq_leaf.2 (.inr ⟨k, hb, hcode⟩)⟩

/-- Every bit string is codes of bytes, and then the code of EOS and a rest, or bits that complete no symbol (R148). -/
theorem exists_symbols (bits : List Bool) :
    (∃ str rest, bits = stringBits str ++ List.replicate 30 true ++ rest) ∨
    ∃ str rest j, bits = stringBits str ++ rest ∧ walkFrom root rest = some (.node j) := by
  induction hn : bits.length using Nat.strong_induction_on generalizing bits with
  | _ n ih =>
    obtain ⟨j, hj⟩ | ⟨code, rest, sym, rfl, hcode⟩ := walkFrom_cases root bits
    · exact .inr ⟨[], bits, j, rfl, hj⟩
    · obtain ⟨r, hr, rfl, rfl⟩ := exists_row_of_walkFrom hcode
      obtain ⟨_, _, hsym⟩ := row_facts hr
      obtain hlt | heos := Nat.lt_succ_iff_lt_or_eq.1 hsym
      · have hbits : r.bits = hufCode (BitVec.ofNat 8 r.symbol).toNat := by
          rw [BitVec.toNat_ofNat, Nat.mod_eq_of_lt hlt, hufCode_of_row hr]
        have hshort : rest.length < n := by
          have := List.length_pos_iff.2 (row_bits_ne_nil hr)
          rw [List.length_append] at hn
          omega
        obtain ⟨str, rest', rfl⟩ | ⟨str, rest', j, rfl, hj⟩ := ih _ hshort rest rfl
        · exact .inl ⟨BitVec.ofNat 8 r.symbol :: str, rest', by simp [stringBits_cons, hbits]⟩
        · exact .inr ⟨BitVec.ofNat 8 r.symbol :: str, rest', j, by simp [stringBits_cons, hbits], hj⟩
      · have hbits : r.bits = List.replicate 30 true := by
          rw [← hufCode_of_row hr, heos]
          exact hufCode_eos
        exact .inl ⟨[], rest, by rw [hbits]; rfl⟩

/-- `t` is `s` after the symbols of `str`, appended to OUT: beside OUT only the cursor has moved, past their codes, and the
bits `rest` are unread. -/
structure State.PastSymbols (s : State) (str : List Byte) (rest : List Bool) (t : State) : Prop where
  same : t = { s with pos := t.pos, cur := t.cur, mask := t.mask, out := s.out ++ str }
  inv : t.ReaderInv
  view : t.viewBits = rest
  cursor : t.bitCursor = s.bitCursor + (stringBits str).length

section
variable {s t : State}

theorem State.PastSymbols.isOpen {str : List Byte} {rest : List Bool} (h : s.PastSymbols str rest t) :
    t.isOpen = s.isOpen := by
  rw [h.same]

theorem State.PastSymbols.tailBits {str : List Byte} {rest tail : List Bool} (h : s.PastSymbols str rest t)
    (ht : s.TailBits tail) : t.TailBits tail := by
  rw [h.same]
  exact ⟨ht.walk, ht.count, ht.allOnes⟩

/-- One symbol read and appended (R68, R160). -/
theorem State.PastSymbols.single {v : Byte} {rest : List Bool} (h : s.ReaderInv) (ho : s.isOpen = true)
    (ht : s.TailBits []) (hv : s.viewBits = hufCode v.toNat ++ rest) :
    ∃ u, readNext s = .done (some v) u ∧ s.PastSymbols [v] rest (u.outAppend v) := by
  have hcode : 5 ≤ (hufCode v.toNat).length := hufCode_length_ge (Nat.le_of_lt v.isLt)
  have hread := readNext_of_code (Nat.le_of_lt v.isLt) h ho ht hv
  have hreached := readNext_leads ho
  rw [readLeaf_symbol v.isLt, BitVec.ofNat_toNat, BitVec.setWidth_eq, (ht.atCursor _).toRoot_eq] at hread
  rw [hread] at hreached
  have htotal := h.bitCursor_add
  rw [hv, List.length_append] at htotal
  refine ⟨_, hread, ⟨rfl, (Reached.safe hreached h).1.withOthers, ?_, ?_⟩⟩
  · exact h.viewBits_atCursor ho (List.ne_nil_of_length_pos (by omega)) hv
  · have hbits : stringBits [v] = hufCode v.toNat := List.append_nil _
    rw [hbits]
    exact State.bitCursor_atCursor (s := s) (by omega)

theorem State.PastSymbols.append {str str' : List Byte} {rest rest' : List Bool} {u : State}
    (h : s.PastSymbols str rest t) (h' : t.PastSymbols str' rest' u) : s.PastSymbols (str ++ str') rest' u where
  same := by
    rw [h'.same, h.same, List.append_assoc]
  inv := h'.inv
  view := h'.view
  cursor := by
    rw [h'.cursor, h.cursor, Nat.add_assoc, ← List.length_append, stringBits, stringBits, stringBits,
      List.flatMap_append]

/-- The body loop on the codes of a string takes one turn for each byte of it (R160). -/
theorem bodyLoop_symbols {str : List Byte} {rest : List Bool} (n : Nat) (h : s.ReaderInv) (ho : s.isOpen = true)
    (ht : s.TailBits []) (hv : s.viewBits = stringBits str ++ rest) :
    ∃ t, bodyLoop (str.length + n) s = bodyLoop n t ∧ s.PastSymbols str rest t := by
  induction str generalizing s with
  | nil => exact ⟨s, by rw [List.length_nil, Nat.zero_add], by rw [List.append_nil], h, hv, rfl⟩
  | cons v str ih =>
    rw [stringBits_cons, List.append_assoc] at hv
    obtain ⟨u, hread, hone⟩ := State.PastSymbols.single h ho ht hv
    obtain ⟨t, hloop, hrest⟩ := ih hone.inv (hone.isOpen.trans ho) (hone.tailBits ht) hone.view
    refine ⟨t, ?_, hone.append hrest⟩
    rw [List.length_cons, Nat.add_right_comm, bodyLoop, hread, Proc.bind_done]
    exact hloop

/-- A read that raises ends the body, in the loop or where the end is confirmed (R160, R163). -/
theorem bodyLoop_confirm_of_raise {n : Nat} {c : Cause} {u : State} (h : readNext t = .raised c u) :
    ((bodyLoop n t).bind fun _ v => confirmEnd v) = .raised c u := by
  cases n with
  | zero => rw [bodyLoop, Proc.bind_done, confirmEnd, h, Proc.bind_raised]
  | succ n => rw [bodyLoop, h, Proc.bind_raised, Proc.bind_raised]

theorem State.openView_lim_toNat {len : Nat} (hl : len ≤ s.bytesLeft) (hp : s.pos.toNat ≤ s.lim.toNat) :
    (s.openView len).lim.toNat = s.pos.toNat + len := by
  have := s.lim.isLt
  rw [State.bytesLeft] at hl
  rw [State.openView_lim, BitVec.toNat_ofNat]
  omega

/-- The unread bits of a fresh view are those of the body. -/
theorem State.openView_viewBits {len : Nat} (hl : len ≤ s.bytesLeft) (hp : s.pos.toNat ≤ s.lim.toNat) :
    (s.openView len).viewBits = s.bodyBits len := by
  rw [State.viewBits, State.bytesLeft, State.openView_lim_toNat hl hp, State.openView_pos, Nat.add_sub_cancel_left]
  rfl

/-- A body that is in the view has all its bits. -/
theorem State.ReaderInv.bodyBits_length {len : Nat} (h : s.ReaderInv) (hl : len ≤ s.bytesLeft) :
    (s.bodyBits len).length = 8 * len := by
  have hlim := h.view.limLen
  have hpos := h.view.posLim
  rw [State.bytesLeft] at hl
  rw [State.bodyBits, flatMap_byteBits_length, Memory.bytes_length (by omega)]

/-- A Huffman body that begins with the codes of `str` is decided by what readNext does after them. -/
theorem hufBody_after_symbols {len : Nat} {str : List Byte} {rest : List Bool} (h : s.ReaderInv)
    (hl : len ≤ s.bytesLeft) (hb : s.bodyBits len = stringBits str ++ rest) :
    ∃ t, (s.openView len).clearOut.PastSymbols str rest t ∧
      ∃ n, hufBody len s = (bodyLoop n t).bind fun _ u => confirmEnd u := by
  have hopen : openContext len s = .done () (s.openView len) := if_neg (Nat.not_lt.2 hl)
  have hbound : str.length ≤ outputBound len := by
    have htotal := h.bodyBits_length hl
    have := stringBits_length_ge str
    rw [hb, List.length_append] at htotal
    exact (Nat.le_div_iff_mul_le (by decide)).2 (by rw [Config.minLen]; omega)
  obtain ⟨n, hn⟩ := Nat.exists_eq_add_of_le hbound
  have hview : (s.openView len).clearOut.viewBits = stringBits str ++ rest :=
    (State.openView_viewBits hl h.view.posLim).trans hb
  obtain ⟨t, hloop, hpast⟩ := bodyLoop_symbols (s := (s.openView len).clearOut) n (h.openView hl).withOthers rfl
    ⟨rfl, rfl, rfl⟩ hview
  refine ⟨t, hpast, n, ?_⟩
  rw [hufBody, hopen, Proc.bind_done, hn, hloop]

/-- Thirty ones at a symbol boundary of the body raise HUF_EOS (R145). -/
theorem hufBody_of_eos {len : Nat} {str : List Byte} {rest : List Bool} (h : s.ReaderInv) (hl : len ≤ s.bytesLeft)
    (hb : s.bodyBits len = stringBits str ++ List.replicate 30 true ++ rest) :
    ∃ u, hufBody len s = .raised .hufEos u ∧ u.raiseError .hufEos = s.afterEos len ((stringBits str).length + 30) := by
  rw [List.append_assoc] at hb
  obtain ⟨t, hpast, n, hbody⟩ := hufBody_after_symbols h hl hb
  have hcursor : t.bitCursor = 8 * s.pos.toNat + (stringBits str).length := hpast.cursor
  have hread := readNext_of_code (Nat.le_refl Config.eos) hpast.inv hpast.isOpen
    (hpast.tailBits ⟨rfl, rfl, rfl⟩) (hpast.view.trans (by rw [hufCode_eos]))
  rw [readLeaf_eos, hufCode_eos, List.length_replicate, hcursor, Nat.add_assoc] at hread
  refine ⟨_, hbody.trans (bodyLoop_confirm_of_raise hread), ?_⟩
  rw [hpast.same]
  rfl

/-- Bits that complete no symbol and are no padding raise HUF_BAD_TAIL at the end of the body (R146). -/
theorem hufBody_of_bad_tail {len : Nat} {str : List Byte} {rest : List Bool} {j : NodeId} (h : s.ReaderInv)
    (hl : len ≤ s.bytesLeft) (hb : s.bodyBits len = stringBits str ++ rest) (hw : walkFrom root rest = some (.node j))
    (hbad : ∀ k, k ≤ 7 → rest ≠ List.replicate k true) :
    ∃ u, hufBody len s = .raised .hufBadTail u ∧ u.raiseError .hufBadTail = s.afterBadTail len rest j := by
  obtain ⟨t, hpast, n, hbody⟩ := hufBody_after_symbols h hl hb
  have hread := readNext_to_end hpast.inv hpast.isOpen (hpast.tailBits (tail := []) ⟨rfl, rfl, rfl⟩)
    (by rw [List.nil_append, hpast.view, hw])
  rw [List.nil_append, hpast.view, endRead_bad (State.atViewEnd_tailBits hw) hbad] at hread
  refine ⟨_, hbody.trans (bodyLoop_confirm_of_raise hread), ?_⟩
  rw [hpast.same]
  rfl

/-- A body that is no valid one is rejected (R148): as what it begins with decides how it ends, HUF_EOS is raised exactly
if codes and thirty ones begin it. -/
theorem hufBody_rejects {len : Nat} (h : s.ReaderInv) (hl : len ≤ s.bytesLeft)
    (hbad : ∀ str k, k ≤ 7 → s.bodyBits len ≠ stringBits str ++ List.replicate k true) :
    ∃ c u, hufBody len s = .raised c u ∧ s.BodyRejected len (u.raiseError c) := by
  obtain ⟨str, rest, hb⟩ | ⟨str, rest, j, hb, hw⟩ := exists_symbols (s.bodyBits len)
  · obtain ⟨u, hu, hafter⟩ := hufBody_of_eos h hl hb
    exact ⟨_, u, hu, ⟨fun _ => ⟨str, rest, hb⟩, fun _ => rfl⟩, .inl ⟨str, rest, hb, hafter⟩⟩
  · have htail : ∀ k, k ≤ 7 → rest ≠ List.replicate k true := fun k hk hr => hbad str k hk (hr ▸ hb)
    obtain ⟨u, hu, hafter⟩ := hufBody_of_bad_tail h hl hb hw htail
    refine ⟨_, u, hu, ⟨fun hc => (by cases hc), fun ⟨str', rest', hb'⟩ => ?_⟩, .inr ⟨str, rest, j, hb, hw, hafter⟩⟩
    obtain ⟨v, hv, _⟩ := hufBody_of_eos h hl hb'
    rw [hu] at hv
    cases hv

end

/-- Settles O41: DECHUF ends as the body does; OUT is emptied by the error entry as by the command. -/
theorem dechufRejectsEveryOtherBody : Obligations.DechufRejectsEveryOtherBody := by
  intro s hs he ho hl hbad
  obtain ⟨c, u, hbody, hrejected⟩ := hufBody_rejects (s := s.clearOut) hs.readerInv.withOthers hl hbad
  refine ⟨u.raiseError c, ?_, hrejected.eosIff, hrejected.outcome⟩
  rw [exec_dechuf_of_ok he, if_neg (by simp [ho]), byteLength, hbody, Proc.commit_raised]

end Sys2Proof.Machine
end

section
/-!
The family of 42_string_literal.md. First the ends of a Huffman body that 41_bitreader.md leaves open: a valid body is decoded
(`hufBody_of_valid`), so with the bodies that are rejected there its end is known in every case, and HUF_BOUND is none of
them. Then the writer's bytes, which are a valid body. Last the string field: how IntCore raises on its length, and DECSTR
as the body that a length leads to (`exec_decstr_of_length`).
-/

namespace Sys2Proof.Machine

/-! ### A valid Huffman body -/

section
variable {s t : State} {len k : Nat}

/-- readNext where the tail and the unread bits together are padding: END, at the end of the view (R142, R146). -/
theorem readNext_of_padding {tail : List Bool} (h : s.ReaderInv) (ho : s.isOpen = true) (ht : s.TailBits tail)
    (hk : k ≤ 7) (hbits : tail ++ s.viewBits = List.replicate k true) :
    readNext s = .done none (s.atViewEnd (List.replicate k true) (BitVec.ofNat 8 k)) := by
  have hw := walkFrom_ones_eq_node hk
  have hread := readNext_to_end h ho ht (hbits ▸ hw)
  rwa [hbits, endRead_clean (State.atViewEnd_tailBits hw) ⟨k, hk, rfl⟩] at hread

/-- Before padding the body loop reaches the end of the view now or in the confirming readNext, which finds the same end
again; either way the context is closed there (R160, R163). -/
theorem bodyLoop_confirm_of_padding (n : Nat) (h : s.ReaderInv) (ho : s.isOpen = true) (ht : s.TailBits [])
    (hk : k ≤ 7) (hv : s.viewBits = List.replicate k true) :
    ((bodyLoop n s).bind fun _ u => confirmEnd u) =
      .done () (s.atViewEnd (List.replicate k true) (BitVec.ofNat 8 k)).closeContext := by
  have hread := readNext_of_padding h ho ht hk hv
  cases n with
  | zero => rw [bodyLoop, Proc.bind_done, confirmEnd, hread, Proc.bind_done]
  | succ n =>
    have hreached := readNext_leads ho
    rw [hread] at hreached
    have htail := State.atViewEnd_tailBits (s := s) (walkFrom_ones_eq_node hk)
    have hagain := readNext_of_padding (hreached.safe h).1 ho htail hk
      (by rw [State.viewBits_at_end rfl rfl, List.append_nil])
    rw [bodyLoop, hread, Proc.bind_done, Proc.bind_done, confirmEnd, hagain]
    rfl

/-- Closing a context brings back the view and the reader of before it (R144, R30 (b)). -/
theorem State.ReaderInv.closeContext_eq (h : s.ReaderInv) (ho : s.isOpen = false) : s.closeContext = s := by
  obtain ⟨hlim, hcur, hmask, hnode, htail, hones⟩ := h.closed ho
  cases s
  simp_all [State.closeContext, State.clearReader]

/-- A valid Huffman body decodes to its string, and every register but `pos` and OUT ends as it was (R160). -/
theorem hufBody_of_valid {str : List Byte} (h : s.ReaderInv) (ho : s.isOpen = false) (hl : len ≤ s.bytesLeft)
    (hk : k ≤ 7) (hb : s.bodyBits len = stringBits str ++ List.replicate k true) :
    hufBody len s = .done () { s.advance len with out := str } := by
  obtain ⟨t, hpast, n, hbody⟩ := hufBody_after_symbols h hl hb
  rw [hbody, bodyLoop_confirm_of_padding n hpast.inv hpast.isOpen (hpast.tailBits ⟨rfl, rfl, rfl⟩) hk hpast.view,
    hpast.same]
  exact congrArg (fun u : State => Proc.done () { u.advance len with out := str }) (h.closeContext_eq ho)

/-- Bytes that are left lie inside the view. -/
theorem State.ViewOk.pos_add_le {n : Nat} (hv : s.ViewOk) (hn : n ≤ s.bytesLeft) : s.pos.toNat + n ≤ s.lim.toNat := by
  have := hv.posLim
  rw [State.bytesLeft] at hn
  omega

/-- A Huffman body that the view cuts short is not begun (R140). -/
theorem hufBody_of_long (hl : s.bytesLeft < len) : hufBody len s = .raised .strTruncated s := by
  have hopen : openContext len s = .raised .strTruncated s := if_pos hl
  rw [hufBody, hopen, Proc.bind_raised]

/-- A raw body that the view cuts short is not begun (R162). -/
theorem rawBody_of_long (hl : s.bytesLeft < len) : rawBody len s = .raised .strTruncated s := if_pos hl

/-- A raw body that is in the view is appended to OUT (R164). -/
theorem rawBody_of_inView (hv : s.ViewOk) (hl : len ≤ s.bytesLeft) :
    rawBody len s = .done () { s.advance len with out := s.out ++ s.inp.bytes s.pos.toNat len } := by
  have hin : s.pos.toNat + len ≤ s.inp.len.toNat := (hv.pos_add_le hl).trans hv.limLen
  rw [rawBody, if_neg (Nat.not_lt.2 hl), copyLoop_eq len _ s hin, Proc.bind_done]
  rfl

end

/-! ### The causes of a command -/

/-- A raise of the procedure has one of the causes `cs`. -/
def Proc.RaisesIn {α : Type} (cs : List Cause) (p : Proc α) : Prop :=
  match p with
  | .done _ _ => True
  | .raised c _ => c ∈ cs
  | .fault _ => True

theorem Proc.RaisesIn.mono {α : Type} {cs cs' : List Cause} {p : Proc α} (hp : p.RaisesIn cs) (h : cs ⊆ cs') :
    p.RaisesIn cs' := by
  cases p with
  | done a t => trivial
  | raised c t => exact h hp
  | fault f => trivial

theorem Proc.RaisesIn.bind {α β : Type} {cs : List Cause} {p : Proc α} {k : α → State → Proc β} (hp : p.RaisesIn cs)
    (hk : ∀ a t, p = .done a t → (k a t).RaisesIn cs) : (p.bind k).RaisesIn cs := by
  cases p with
  | done a t => exact hk a t rfl
  | raised c t => exact hp
  | fault f => trivial

theorem ReaderOnly.raisesIn {α : Type} {s : State} {p : Proc α} (h : ReaderOnly s p) :
    p.RaisesIn [.hufBadTail, .hufEos] := by
  cases p with
  | done a t => trivial
  | raised c t => exact List.mem_pair.2 h.2
  | fault f => trivial

theorem PosOnly.raisesIn {α : Type} {s : State} {p : Proc α} (h : PosOnly s p) :
    p.RaisesIn [.intTruncated, .intOverflow] := by
  cases p with
  | done a t => trivial
  | raised c t => exact List.mem_pair.2 h.2
  | fault f => trivial

section
variable {s t : State}

theorem openContext_raisesIn (len : Nat) (s : State) : (openContext len s).RaisesIn [.strTruncated] := by
  obtain ⟨_, h⟩ | ⟨_, h⟩ := openContext_cases len s <;> rw [h]
  · exact List.mem_singleton_self _
  · trivial

theorem State.BodyRejected.cause_mem {len : Nat} (h : s.BodyRejected len t) : t.cause ∈ [.hufBadTail, .hufEos] := by
  obtain ⟨_, _, _, rfl⟩ | ⟨_, _, _, _, _, rfl⟩ := h.outcome
  · exact List.mem_pair.2 (.inr rfl)
  · exact List.mem_pair.2 (.inl rfl)

/-- Every Huffman body is too long for the view, valid, or rejected, so the check of R163 never raises. -/
theorem hufBody_raisesIn (len : Nat) (h : s.ReaderInv) (ho : s.isOpen = false) :
    (hufBody len s).RaisesIn [.strTruncated, .hufBadTail, .hufEos] := by
  obtain hl | hl := Nat.lt_or_ge s.bytesLeft len
  · rw [hufBody_of_long hl]
    exact List.mem_cons_self
  · by_cases hvalid : ∃ str k, k ≤ 7 ∧ s.bodyBits len = stringBits str ++ List.replicate k true
    · obtain ⟨str, k, hk, hb⟩ := hvalid
      rw [hufBody_of_valid h ho hl hk hb]
      trivial
    · obtain ⟨c, u, hu, hrejected⟩ := hufBody_rejects h hl fun str k hk hb => hvalid ⟨str, k, hk, hb⟩
      rw [hu]
      exact List.mem_cons_of_mem _ hrejected.cause_mem

theorem rawBody_raisesIn (len : Nat) (s : State) : (rawBody len s).RaisesIn [.strTruncated] := by
  obtain ⟨_, h⟩ | ⟨_, _, h⟩ | ⟨_, h⟩ := rawBody_cases len s <;> rw [h]
  · exact List.mem_singleton_self _
  · trivial
  · trivial

theorem stringField_raisesIn (b : Byte) (h : s.ReaderInv) (ho : s.isOpen = false) :
    (stringField b s).RaisesIn [.intTruncated, .intOverflow, .strTruncated, .hufBadTail, .hufEos] := by
  refine ((intCore_posOnly _ s).raisesIn.mono (by simp)).bind fun r u hu => ?_
  have hreached := intCore_leads Config.strN ho
  rw [hu] at hreached
  have huo : u.isOpen = false := ((intCore_posOnly _ s).done_isOpen hu).trans ho
  refine Proc.RaisesIn.bind ?_ fun _ _ _ => trivial
  split
  · exact (hufBody_raisesIn r.1 (hreached.safe h).1 huo).mono (by simp)
  · exact (rawBody_raisesIn r.1 u).mono (by simp)

/-- A command of such a procedure leaves the cause or ends with one of the procedure's. -/
theorem Proc.RaisesIn.commit_cause {α : Type} {cs : List Cause} {p : Proc α} {g : α → State → State}
    (hp : p.RaisesIn cs) (hreached : p.Leads (Reached s)) (h : p.commit g = .next t)
    (hg : ∀ a u, (g a u).cause = u.cause) : t.cause = s.cause ∨ t.cause ∈ cs := by
  obtain ⟨a, u, rfl, rfl⟩ | ⟨c, u, rfl, rfl⟩ := Proc.commit_next h
  · exact .inl ((hg a u).trans (Reached.cause hreached))
  · exact .inr hp

end

theorem causesOf_of_symbol (i : Instr) : i.symbol? = none ∨ causesOf i = [.hufBadTail, .hufEos, .illegalCommand] := by
  cases i with
  | decint _ | decstr | dechuf | bropen | rdsym | brclose => exact .inl rfl
  | _ => exact .inr rfl

theorem causesOf_row {r : HufRow} (hr : r ∈ hufRows) : causesOf r.instr = [.hufBadTail, .hufEos, .illegalCommand] := by
  obtain hn | hc := causesOf_of_symbol r.instr
  · simp [(row_facts hr).2.1] at hn
  · exact hc

/-- Every list of R202 has ILLEGAL_COMMAND and none has HUF_BOUND. -/
theorem mem_causesOf (i : Instr) : .illegalCommand ∈ causesOf i ∧ .hufBound ∉ causesOf i := by
  obtain hn | hc := causesOf_of_symbol i
  · cases i with
    | decint _ | decstr | dechuf | bropen | rdsym | brclose => simp [causesOf]
    | _ => cases hn
  · rw [hc]
    decide

section
variable {s t : State}

/-- A read of a symbol has the causes of RDSYM. Shared by RDSYM and the code words. -/
theorem read_cause {p : Proc (Option Byte)} (hp : s.isOpen = true → p.Leads (Reached s)) (hr : ReaderOnly s p)
    (h : (if s.isOpen then p.commit deliverSymbol else .next (s.raiseError .illegalCommand)) = .next t) :
    t.cause = s.cause ∨ t.cause ∈ [.hufBadTail, .hufEos, .illegalCommand] := by
  split at h
  · next ho =>
    exact (hr.raisesIn.mono (by simp)).commit_cause (hp ho) h fun r _ => by cases r <;> rfl
  · cases h
    simp

/-- A command that is legal only outside a context. Shared by four of the six. -/
theorem closed_command_cause {i : Instr} {o : Host.Outcome State Fault Refusal}
    (h : (if s.isOpen then .next (s.raiseError .illegalCommand) else o) = .next t)
    (hclosed : s.isOpen = false → o = .next t → t.cause = s.cause ∨ t.cause ∈ causesOf i) :
    t.cause = s.cause ∨ t.cause ∈ causesOf i := by
  split at h
  · cases h
    exact .inr (mem_causesOf i).1
  · next ho => exact hclosed (by simpa using ho) h

theorem decint_cause {n : Nat} (he : s.err = false) (h : exec (.decint n) s = .next t) :
    t.cause = s.cause ∨ t.cause ∈ causesOf (.decint n) := by
  rw [exec_decint_of_ok he] at h
  refine closed_command_cause h fun ho h => ?_
  split at h
  · exact ((intCore_posOnly n s).raisesIn.mono (by simp [causesOf])).commit_cause (intCore_leads n ho) h
      fun _ _ => rfl
  · cases h
    simp [causesOf]

theorem decstr_cause (hs : s.Inv) (he : s.err = false) (h : exec .decstr s = .next t) :
    t.cause = s.cause ∨ t.cause ∈ causesOf .decstr := by
  rw [exec_decstr_of_ok he] at h
  refine closed_command_cause h fun ho h => ?_
  split at h
  · cases h
    simp [causesOf]
  · cases h
  · next b _ =>
    have hfield := stringField_raisesIn b (s := s.clearOut.setH (huffmanFlag b)) hs.readerInv.withOthers ho
    exact Proc.RaisesIn.commit_cause (s := s.clearOut.setH (huffmanFlag b)) (hfield.mono (by simp [causesOf]))
      (stringField_leads b ho) h fun _ _ => rfl

theorem dechuf_cause (hs : s.Inv) (he : s.err = false) (h : exec .dechuf s = .next t) :
    t.cause = s.cause ∨ t.cause ∈ causesOf .dechuf := by
  rw [exec_dechuf_of_ok he] at h
  refine closed_command_cause h fun ho h => ?_
  have hbody := hufBody_raisesIn (byteLength s) (s := s.clearOut) hs.readerInv.withOthers ho
  exact Proc.RaisesIn.commit_cause (s := s.clearOut) (hbody.mono (by simp [causesOf])) (hufBody_leads _) h
    fun _ _ => rfl

theorem bropen_cause (he : s.err = false) (h : exec .bropen s = .next t) :
    t.cause = s.cause ∨ t.cause ∈ causesOf .bropen := by
  rw [exec_bropen_of_ok he] at h
  exact closed_command_cause h fun _ h =>
    ((openContext_raisesIn _ s).mono (by simp [causesOf])).commit_cause (openContext_leads _) h fun _ _ => rfl

theorem brclose_cause (he : s.err = false) (h : exec .brclose s = .next t) :
    t.cause = s.cause ∨ t.cause ∈ causesOf .brclose := by
  rw [exec_brclose_of_ok he] at h
  split at h <;> cases h
  · exact .inl rfl
  · exact .inr (mem_causesOf _).1

/-- An instruction leaves the cause or ends with one of those it can raise (R202). -/
theorem exec_cause {i : Instr} (hs : s.Inv) (he : s.err = false) (h : exec i s = .next t) :
    t.cause = s.cause ∨ t.cause ∈ causesOf i := by
  obtain ⟨n, rfl⟩ | rfl | rfl | rfl | rfl | rfl | ⟨r, hr, rfl⟩ := instr_cases i
  · exact decint_cause he h
  · exact decstr_cause hs he h
  · exact dechuf_cause hs he h
  · exact bropen_cause he h
  · rw [exec_rdsym_of_ok he] at h
    exact read_cause readNext_leads (readNext_readerOnly s) h
  · exact brclose_cause he h
  · rw [exec_row_of_ok he hr] at h
    rw [causesOf_row hr]
    exact read_cause (walkCode_leads r.bits) (walkCode_readerOnly r.bits s) h

end

/-- Settles O21: HUF_BOUND is no cause of any instruction, and without an error the cause is NONE. -/
theorem hufBoundIsUnreachable : Obligations.HufBoundIsUnreachable := by
  intro i s t hs he h hbound
  obtain hc | hc := exec_cause hs he h
  · rw [hs.causeErr.2 he, hbound] at hc
    cases hc
  · exact (mem_causesOf i).2 (hbound ▸ hc)

/-! ### DECHUF -/

/-- Settles O42: the error entry empties OUT as the command has. -/
theorem dechufRaisesStrTruncated : Obligations.DechufRaisesStrTruncated := by
  intro s he ho hl
  have hbody : hufBody (byteLength s) s.clearOut = .raised .strTruncated s.clearOut :=
    hufBody_of_long (s := s.clearOut) hl
  rw [exec_dechuf_of_ok he, if_neg (by simp [ho]), hbody, Proc.commit_raised]
  rfl

/-- Settles O40: the command adds the result to what the body ends in. -/
theorem dechufDecodesAValidBody : Obligations.DechufDecodesAValidBody := by
  intro s str k hs he ho hl hk hb
  have hbody : hufBody (byteLength s) s.clearOut = .done () { s.advance s.arg.toNat with out := str } :=
    hufBody_of_valid (s := s.clearOut) hs.readerInv.withOthers ho hl hk hb
  have hpos : BitVec.ofNat 64 (s.pos.toNat + s.arg.toNat) = s.pos + s.arg := rfl
  have harg : BitVec.ofNat 64 s.arg.toNat = s.arg := by rw [BitVec.ofNat_toNat, BitVec.setWidth_eq]
  rw [exec_dechuf_of_ok he, if_neg (by simp [ho]), hbody, Proc.commit_done, byteLength, State.setResult, harg,
    State.advance, hpos]

theorem byteBits_ofNat_bitsToNat : ∀ b7 b6 b5 b4 b3 b2 b1 b0 : Bool,
    byteBits (BitVec.ofNat 8 (bitsToNat [b7, b6, b5, b4, b3, b2, b1, b0])) = [b7, b6, b5, b4, b3, b2, b1, b0] := by
  decide

/-- Whole bytes of bits, cut into bytes and read back (R64): beside a first byte and a rest only no bits at all are whole
bytes. -/
theorem flatMap_byteBits_packBytes {bits : List Bool} (h : bits.length % 8 = 0) :
    (packBytes bits).flatMap byteBits = bits := by
  induction bits using packBytes.induct with
  | case1 b7 b6 b5 b4 b3 b2 b1 b0 rest ih =>
    have hrest : rest.length % 8 = 0 := by
      simp only [List.length_cons] at h
      omega
    rw [packBytes, List.flatMap_cons, byteBits_ofNat_bitsToNat, ih hrest]
    rfl
  | case2 bits hshort =>
    match bits, h, hshort with
    | [], _, _ => rfl
    | b7 :: b6 :: b5 :: b4 :: b3 :: b2 :: b1 :: b0 :: rest, _, hshort => exact (hshort _ _ _ _ _ _ _ _ _ rfl).elim

/-- Settles O43: the writer's bytes hold the codes and at most seven bits of padding. -/
theorem dechufInvertsTheReferenceEncoder : Obligations.DechufInvertsTheReferenceEncoder := by
  intro s str hs he ho harg hl hbytes
  refine dechufDecodesAValidBody s str ((8 - (stringBits str).length % 8) % 8) hs he ho (harg ▸ hl) (by omega) ?_
  rw [State.bodyBits, harg, hbytes, encodeString, flatMap_byteBits_packBytes]
  rw [List.length_append, List.length_replicate]
  omega

/-- A Huffman body that is decoded has appended at most its bound to the empty OUT (R165). -/
theorem hufBody_done_length {len : Nat} {s t : State} (h : hufBody len s = .done () t) :
    t.out.length ≤ outputBound len := by
  obtain ⟨_, u, _, hbody⟩ := Proc.bind_eq_done h
  obtain ⟨_, v, hloop, hconfirm⟩ := Proc.bind_eq_done hbody
  obtain ⟨r, w, hread, hend⟩ := Proc.bind_eq_done hconfirm
  have hv : v.out.length ≤ outputBound len := by
    obtain ⟨v', hv', _, hlen⟩ | ⟨_, _, hv', _⟩ | ⟨_, hv'⟩ := bodyLoop_cases (outputBound len) u.clearOut <;>
      rw [hv'] at hloop <;> cases hloop
    simpa using hlen
  have hw := readNext_readerOnly v
  rw [hread] at hw
  cases r <;> cases hend
  exact (congrArg List.length (SameButReader.out hw)).trans_le hv

/-- Settles O44: an error empties OUT. -/
theorem dechufOutputStaysWithinTheBound : Obligations.DechufOutputStaysWithinTheBound := by
  intro s t he h
  rw [exec_dechuf_of_ok he] at h
  split at h
  · cases h
    exact Nat.zero_le _
  · obtain ⟨_, u, hu, rfl⟩ | ⟨c, u, _, rfl⟩ := Proc.commit_next h
    · exact (hufBody_done_length hu : u.out.length ≤ outputBound (byteLength s))
    · exact Nat.zero_le _

/-! ### An integer that IntCore raises on -/

section
variable {s : State} {b c : Byte} {cs : List Byte} {n : Nat}

/-- The continuation byte that takes the sum past 64 bits is consumed and raises, also where its weight is beyond `128^9`
and has been saturated (R183). -/
theorem intLoop_of_overflow {fuel acc k count : Nat} (hp : s.peek = .byte b) (hfit : acc ≤ Config.valMax)
    (hover : Config.valMax < acc + payload b * 128 ^ k) :
    intLoop (fuel + 1) acc (min k 10) count s = .raised .intOverflow (s.advance 1) := by
  have hne : payload b ≠ 0 := fun hzero => by
    rw [hzero, Nat.zero_mul] at hover
    omega
  have hraise : 10 ≤ min k 10 ∨ Config.valMax < acc + payload b * 128 ^ min k 10 := by
    obtain hk | hk := Nat.le_total 10 k
    · exact .inl (by omega)
    · exact .inr (by rwa [Nat.min_eq_left hk])
  rw [intLoop, hp]
  exact if_pos ⟨hne, hraise⟩

/-- A continuation byte that the view does not have (R184), whatever the fuel. -/
theorem intLoop_at_end (fuel acc shift count : Nat) (hp : s.peek = .endMarker) :
    intLoop fuel acc shift count s = .raised .intTruncated s := by
  cases fuel <;> rw [intLoop, hp]

/-- After a first byte whose N bits are all ones IntCore loops, with fuel for every byte of the view (R181). -/
theorem intCore_of_full (hview : s.ViewOk) (h : s.NextBytes (b :: cs)) (hfull : prefixField n b = fullPrefix n) :
    ∃ fuel, intCore n s = intLoop (fuel + cs.length) (fullPrefix n) 0 1 (s.advance 1) := by
  have hfuel : cs.length ≤ s.inp.len.toNat - (s.advance 1).pos.toNat :=
    h.advance.inView.trans (Nat.sub_le_sub_right hview.limLen _)
  refine ⟨s.inp.len.toNat - (s.advance 1).pos.toNat - cs.length, ?_⟩
  rw [intCore, h.peek, Nat.sub_add_cancel hfuel]
  exact if_neg (by omega)

/-- IntCore on an integer above 64 bits (R183): the bytes before `c` are added up, and `c` raises. -/
theorem intCore_of_overflow (hview : s.ViewOk) (h : s.NextBytes (b :: (cs ++ [c])))
    (hfull : prefixField n b = fullPrefix n) (hmore : cs.all moreFlag = true)
    (hfit : fullPrefix n + continuationValue 0 cs ≤ Config.valMax)
    (hover : Config.valMax < fullPrefix n + continuationValue 0 (cs ++ [c])) :
    intCore n s = .raised .intOverflow (s.advance (1 + (cs ++ [c]).length)) := by
  obtain ⟨fuel, hcore⟩ := intCore_of_full hview h hfull
  have hlen : (cs ++ [c]).length = 1 + cs.length := by rw [List.length_append, List.length_singleton, Nat.add_comm]
  have hvalue : continuationValue 0 (cs ++ [c]) = continuationValue 0 cs + payload c * 128 ^ cs.length := by
    simp [continuationValue_append, continuationValue]
  have hfront := intLoop_of_more (k := 0) (fuel := fuel + 1) (count := 1) h.advance hmore hfit
  rw [Nat.zero_min, Nat.zero_add, State.advance_advance] at hfront
  rw [hvalue, ← Nat.add_assoc] at hover
  have hlast : (s.advance (1 + cs.length)).NextBytes [c] := by
    rw [← State.advance_advance]
    exact h.advance.advance_length
  rw [hcore, hlen, ← Nat.add_assoc, hfront, intLoop_of_overflow hlast.peek hfit hover, State.advance_advance,
    Nat.add_right_comm, Nat.add_assoc]

/-- The bytes of the view are all there, and they are the next ones. -/
theorem State.ViewOk.nextBytes {bs : List Byte} (hview : s.ViewOk) (h : s.inp.bytes s.pos.toNat s.bytesLeft = bs) :
    bs.length = s.bytesLeft ∧ s.NextBytes bs := by
  have hlen : bs.length = s.bytesLeft :=
    h ▸ Memory.bytes_length ((hview.pos_add_le (Nat.le_refl _)).trans hview.limLen)
  exact ⟨hlen, hlen ▸ h, hlen.le⟩

theorem State.ViewOk.advance_bytesLeft (hview : s.ViewOk) : s.advance s.bytesLeft = { s with pos := s.lim } := by
  rw [State.advance, State.bytesLeft, Nat.add_sub_cancel' hview.posLim, BitVec.ofNat_toNat, BitVec.setWidth_eq]

/-- IntCore on an integer whose continuation bytes go on past the end of the view (R184). -/
theorem intCore_of_truncated (hview : s.ViewOk) (h : s.inp.bytes s.pos.toNat s.bytesLeft = b :: cs)
    (hfull : prefixField n b = fullPrefix n) (hmore : cs.all moreFlag = true)
    (hfit : fullPrefix n + continuationValue 0 cs ≤ Config.valMax) :
    intCore n s = .raised .intTruncated { s with pos := s.lim } := by
  obtain ⟨hlen, hnext⟩ := hview.nextBytes h
  obtain ⟨fuel, hcore⟩ := intCore_of_full hview hnext hfull
  have hrest : (s.advance 1).NextBytes (cs ++ []) := by
    rw [List.append_nil]
    exact hnext.advance
  have hloop := intLoop_of_more (k := 0) (fuel := fuel) (count := 1) hrest hmore hfit
  rw [Nat.zero_min, State.advance_advance, Nat.add_comm 1 cs.length, ← List.length_cons (a := b), hlen,
    hview.advance_bytesLeft] at hloop
  rw [hcore, hloop, intLoop_at_end]
  exact if_pos rfl

end

/-! ### DECSTR -/

/-- The state in which DECSTR begins the body of a field with the flag `flag`, whose length took `n` bytes (R162). -/
def State.atBody (s : State) (flag : Bool) (n : Nat) : State := (s.clearOut.setH flag).advance n

section
variable {s : State} {b : Byte} {cs : List Byte} {len n : Nat}

theorem State.ReaderInv.atBody (h : s.ReaderInv) (ho : s.isOpen = false) (hn : n ≤ s.bytesLeft) (flag : Bool) :
    (s.atBody flag n).ReaderInv ∧ (s.atBody flag n).pos.toNat = s.pos.toNat + n ∧
      (s.atBody flag n).bytesLeft = s.bytesLeft - n := by
  have hin := h.view.pos_add_le hn
  have hpos : (s.atBody flag n).pos.toNat = s.pos.toNat + n := State.advance_pos_toNat hin
  refine ⟨?_, hpos, ?_⟩
  · exact State.ReaderInv.advance (s := s.clearOut.setH flag) h.withOthers (h.mask_eq_zero ho) hin
  · rw [State.bytesLeft, hpos, State.bytesLeft, Nat.sub_add_eq]
    rfl

theorem State.atBody_advance (s : State) (flag : Bool) (n len : Nat) :
    (s.atBody flag n).advance len = s.atBody flag (n + len) :=
  State.advance_advance ..

theorem State.IntegerAt.nextBytes (h : s.IntegerAt n b cs len) : s.NextBytes (b :: cs) := by
  obtain ⟨hbytes, hlen, _⟩ := h
  rw [Nat.add_comm] at hbytes hlen
  exact ⟨hbytes, hlen⟩

/-- DECSTR raises where the length of the field does (R162). -/
theorem exec_decstr_of_length_raise {c : Cause} {u : State} (he : s.err = false) (ho : s.isOpen = false)
    (hp : s.peek = .byte b) (h : intCore Config.strN (s.clearOut.setH (huffmanFlag b)) = .raised c u) :
    exec .decstr s = .next (u.raiseError c) := by
  rw [exec_decstr_of_byte he ho hp, stringField, h, Proc.bind_raised, Proc.commit_raised]

/-- The length and its size are kept across the body, for the result of the command. -/
theorem Proc.bind_commit {α β : Type} (p : Proc α) (r : β) (g : β → State → State) :
    (p.bind fun _ u => .done r u).commit g = p.commit fun _ => g r := by
  cases p <;> rfl

/-- DECSTR on a field whose length integer stands at `pos` is the body that the length leads to (R162). -/
theorem exec_decstr_of_length (hs : s.Inv) (he : s.err = false) (ho : s.isOpen = false) (h : s.IntegerAt 7 b cs len) :
    exec .decstr s =
      (if huffmanFlag b then hufBody len (s.atBody (huffmanFlag b) (1 + cs.length))
        else rawBody len (s.atBody (huffmanFlag b) (1 + cs.length))).commit
        fun _ u => u.setResult .string len (1 + cs.length + len) := by
  have hview : (s.clearOut.setH (huffmanFlag b)).ViewOk := hs.readerInv.withOthers.view
  have hlength := intCore_of_integerAt hview ⟨h.bytes, h.inView, h.value, h.fits⟩
  rw [exec_decstr_of_byte he ho h.nextBytes.peek, stringField, Config.strN, hlength, Proc.bind_done, Proc.bind_commit]
  rfl

end

/-- Settles O45: the body is appended to the OUT that the command has emptied. -/
theorem decstrCopiesARawBody : Obligations.DecstrCopiesARawBody := by
  intro s b cs len hs he ho hat hb hl
  obtain ⟨hinv, hpos, hleft⟩ := hs.readerInv.atBody ho hat.inView false
  have hbody := rawBody_of_inView (len := len) hinv.view (by omega)
  rw [hpos, State.atBody_advance] at hbody
  refine ⟨?_, Memory.bytes_length ?_⟩
  · rw [exec_decstr_of_length hs he ho hat, huffmanFlag, hb, if_neg (by decide), hbody, Proc.commit_done]
    rfl
  · rw [Nat.add_assoc]
    exact (hs.view.pos_add_le hl).trans hs.view.limLen

/-- Settles O46: after its length the field is a valid Huffman body. -/
theorem decstrDecodesAHuffmanBody : Obligations.DecstrDecodesAHuffmanBody := by
  intro s b cs len str k hs he ho hat hb hl hk hbits
  obtain ⟨hinv, hpos, hleft⟩ := hs.readerInv.atBody ho hat.inView true
  rw [← hpos] at hbits
  have hbody := hufBody_of_valid hinv ho (by omega) hk hbits
  rw [State.atBody_advance] at hbody
  rw [exec_decstr_of_length hs he ho hat, huffmanFlag, hb, if_pos rfl, hbody, Proc.commit_done]
  rfl

/-- Settles O47: a body that the view cuts short is not begun, raw or Huffman. -/
theorem decstrRaisesStrTruncated : Obligations.DecstrRaisesStrTruncated := by
  intro s b cs len hs he ho hat hl
  obtain ⟨_, _, hleft⟩ := hs.readerInv.atBody ho hat.inView (huffmanFlag b)
  have hlong : (s.atBody (huffmanFlag b) (1 + cs.length)).bytesLeft < len := by
    have := hat.inView
    omega
  rw [exec_decstr_of_length hs he ho hat, hufBody_of_long hlong, rawBody_of_long hlong, ite_self, Proc.commit_raised]
  rfl

/-- Settles O48: the body is rejected as in DECHUF. -/
theorem decstrRejectsEveryOtherHuffmanBody : Obligations.DecstrRejectsEveryOtherHuffmanBody := by
  intro s b cs len hs he ho hat hb hl body hbad
  obtain ⟨hinv, _, hleft⟩ := hs.readerInv.atBody ho hat.inView true
  obtain ⟨c, u, hbody, hrejected⟩ := hufBody_rejects (len := len) hinv (by omega) hbad
  refine ⟨u.raiseError c, ?_, hrejected.eosIff, hrejected.outcome⟩
  rw [exec_decstr_of_length hs he ho hat, huffmanFlag, hb, if_pos rfl, hbody, Proc.commit_raised]

/-- Settles O49: H is latched before the length is decoded. -/
theorem decstrRaisesIntOverflow : Obligations.DecstrRaisesIntOverflow := by
  intro s b c cs hs he ho hbytes hl hfull hmore hfit hover
  rw [Nat.add_comm] at hbytes hl
  have hnext : s.NextBytes (b :: (cs ++ [c])) := ⟨hbytes, hl⟩
  have hview : (s.clearOut.setH (huffmanFlag b)).ViewOk := hs.readerInv.withOthers.view
  rw [exec_decstr_of_length_raise he ho hnext.peek
    (intCore_of_overflow hview ⟨hbytes, hl⟩ hfull hmore hfit hover)]
  rfl

/-- Settles O50, likewise. -/
theorem decstrRaisesIntTruncated : Obligations.DecstrRaisesIntTruncated := by
  intro s b cs hs he ho hbytes hfull hmore hfit
  have hview : (s.clearOut.setH (huffmanFlag b)).ViewOk := hs.readerInv.withOthers.view
  obtain ⟨_, hnext⟩ := hs.view.nextBytes hbytes
  rw [exec_decstr_of_length_raise he ho hnext.peek (intCore_of_truncated hview hbytes hfull hmore hfit)]
  rfl

end Sys2Proof.Machine
end

section
/-!
The family of 43_integer.md. What IntCore does at `pos` is known from the families before (`intCore_of_integerAt`,
`intCore_of_overflow`, `intCore_of_truncated`); here DECINT passes a raise of IntCore on as its own, and the empty view is the
end of the view that is left.
-/

namespace Sys2Proof.Machine

section
variable {s : State} {n : Nat}

/-- DECINT raises where IntCore does, in the state that IntCore has reached (R180, R204). -/
theorem exec_decint_of_intCore_raise {c : Cause} {u : State} (he : s.err = false) (ho : s.isOpen = false) (hmin : 1 ≤ n)
    (hmax : n ≤ 8) (h : intCore n s = .raised c u) : exec (.decint n) s = .next (u.raiseError c) := by
  rw [exec_decint_of_ok he, if_neg (by simp [ho]), if_pos (legalPrefixSize_iff.2 ⟨hmin, hmax⟩), h, Proc.commit_raised]

/-- A view without bytes left has `pos` at its end. -/
theorem State.ViewOk.pos_eq_lim (hview : s.ViewOk) (h : s.bytesLeft = 0) : s.pos = s.lim :=
  BitVec.eq_of_toNat_eq (hview.posLim.antisymm (Nat.sub_eq_zero_iff_le.1 h))

/-- IntCore on an empty view (R184): the first byte is missing, and `pos` is at the end already. -/
theorem intCore_of_empty (n : Nat) (hview : s.ViewOk) (h : s.bytesLeft = 0) :
    intCore n s = .raised .intTruncated { s with pos := s.lim } := by
  have hpos := hview.pos_eq_lim h
  have hend : { s with pos := s.lim } = s := congrArg (fun p => { s with pos := p }) hpos.symm
  rw [hend, intCore, State.peek, if_pos hpos]

end

/-- Settles O35: DECINT reads an integer that stands at `pos`. -/
theorem decintDecodesTheInteger : Obligations.DecintDecodesTheInteger := by
  intro s n b cs v hs he ho hmin hmax hat
  rw [exec_decint_of_integerAt hs he ho hmin hmax hat]
  rfl

/-- Settles O36: IntCore raises with its last byte consumed. -/
theorem decintRaisesOverflow : Obligations.DecintRaisesOverflow := by
  intro s n b c cs hs he ho hmin hmax hbytes hl hfull hmore hfit hover
  rw [Nat.add_comm] at hbytes hl
  exact exec_decint_of_intCore_raise he ho hmin hmax
    (intCore_of_overflow hs.view ⟨hbytes, hl⟩ hfull hmore hfit hover)

/-- Settles O37: the first byte is missing, or a continuation byte. -/
theorem decintRaisesTruncated : Obligations.DecintRaisesTruncated := by
  intro s n hs he ho hmin hmax hcut
  refine exec_decint_of_intCore_raise he ho hmin hmax ?_
  obtain hempty | ⟨b, cs, hbytes, hfull, hmore, hfit⟩ := hcut
  · exact intCore_of_empty n hs.view hempty
  · exact intCore_of_truncated hs.view hbytes hfull hmore hfit

/-- Settles O38: the test of N comes before IntCore. -/
theorem decintRefusesBadPrefixSizes : Obligations.DecintRefusesBadPrefixSizes :=
  fun _ _ he ho hn => exec_decint_of_illegal he ho hn

end Sys2Proof.Machine
end

section
/-!
The family of 60_exceptions.md. How a command ends (`Ends`), what it can raise (`exec_cause`) and the checks it makes first
(`exec_of_err`, `exec_decint_of_ok` and its like) are known from the families before. What is new here: a refused write of CMD, the
causes of a string field with H clear, and the two ways a step of a system of cores can go.
-/

namespace Sys2Proof.Machine

/-! ### The error entry and its stickiness -/

section
variable {s t u : State}

/-- A command that was not refused and ends with `err = 1` ends with the error entry (R204). -/
theorem Ends.error_entry (h : Ends u t) (hu : u.err = false) (ht : t.err = true) :
    t.rKind = .error ∧ t.rVal = 0 ∧ t.rCnt = 0 ∧ t.out = [] ∧ t.cause ≠ .none := by
  cases h with
  | refused he => simp [hu] at he
  | raised hc => exact ⟨rfl, rfl, rfl, rfl, hc⟩
  | result he hr => simp [hu] at ht

theorem exec_error_entry {i : Instr} (he : s.err = false) (h : exec i s = .next t) (ht : t.err = true) :
    t.rKind = .error ∧ t.rVal = 0 ∧ t.rCnt = 0 ∧ t.out = [] ∧ t.cause ≠ .none := by
  obtain ⟨u, ⟨flag, hu⟩, hend⟩ := exec_ends h
  exact hend.error_entry (hu.err.trans he) ht

/-- Every write of CMD, reserved words included, is refused while `err = 1` (R205). -/
theorem runCommand_of_err (he : s.err = true) (w : Byte) : runCommand w s = .next s.refuseCommand := by
  rw [runCommand]
  cases decode (.command w) with
  | ok i => exact exec_of_err he i
  | error e => exact unlessError_of_err he _

/-- No host action but a reset touches a recorded error (R207). -/
theorem serve_keeps_error {a : HostAction} (he : s.err = true) (h : serve a s = .next t)
    (hne : ∀ input, a ≠ .reset input) : t.err = true ∧ t.cause = s.cause := by
  cases a with
  | writeCmd w =>
    have hrefused : serve (.writeCmd w) s = .next s.refuseCommand := runCommand_of_err he w
    rw [hrefused] at h
    cases h
    exact ⟨he, rfl⟩
  | writeArg v =>
    cases h
    exact ⟨he, rfl⟩
  | writeReadOnly r v =>
    cases h
    exact ⟨he, rfl⟩
  | reset input => exact absurd rfl (hne input)

theorem serve_reset_clears_error {input : List Byte} (h : serve (.reset input) s = .next t) :
    t.err = false ∧ t.cause = .none := by
  by_cases hl : input.length < 2 ^ 64
  · rw [serve_reset hl] at h
    cases h
    exact ⟨rfl, rfl⟩
  · rw [serve_reset_of_long hl] at h
    cases h

end

/-- Settles O17. -/
theorem stickyErrorRefusesEveryCommand : Obligations.StickyErrorRefusesEveryCommand :=
  fun _ => ⟨fun he => ⟨runCommand_of_err he, exec_of_err he⟩, fun _ _ _ => runCommand_of_decode⟩

/-- Settles O18: what an instruction runs before its end leaves `err` alone, so an error is the error entry of its end. -/
theorem everyRaiseMakesTheErrorEntry : Obligations.EveryRaiseMakesTheErrorEntry :=
  fun _ _ _ he h ht => exec_error_entry he h ht

/-- Settles O19. -/
theorem onlyResetClearsTheError : Obligations.OnlyResetClearsTheError := by
  refine fun s t a he h => ⟨serve_keeps_error he h, fun input ha => ?_⟩
  subst ha
  exact serve_reset_clears_error h

/-! ### The causes of a string field -/

section
variable {s t : State}

/-- A raw field has no Huffman cause (R202). -/
theorem stringField_raw_raisesIn {b : Byte} (hb : huffmanFlag b = false) (s : State) :
    (stringField b s).RaisesIn [.intTruncated, .intOverflow, .strTruncated] := by
  refine ((intCore_posOnly _ s).raisesIn.mono (by simp)).bind fun r u _ => ?_
  rw [if_neg (by simp [hb])]
  exact ((rawBody_raisesIn r.1 u).mono (by simp)).bind fun _ _ _ => trivial

/-- DECSTR that ends with `H = 0` had a raw field, if it had one at all. -/
theorem decstr_raw_cause (he : s.err = false) (h : exec .decstr s = .next t) (hh : t.h = false) :
    t.cause = s.cause ∨ t.cause ∈ [.intTruncated, .intOverflow, .strTruncated, .illegalCommand] := by
  cases ho : s.isOpen with
  | true =>
    rw [exec_decstr_of_ok he, if_pos ho] at h
    cases h
    simp
  | false =>
    obtain ⟨_, rfl⟩ | ⟨b, u, hp, hu, hend⟩ := decstr_ends_closed he ho h
    · simp
    · have hb : huffmanFlag b = false := (hend.frame.h.trans hu.h).symm.trans hh
      rw [exec_decstr_of_byte he ho hp] at h
      have hfield := stringField_raw_raisesIn hb (s.clearOut.setH (huffmanFlag b))
      exact Proc.RaisesIn.commit_cause (s := s.clearOut.setH (huffmanFlag b)) (hfield.mono (by simp))
        (stringField_leads b ho) h fun _ _ => rfl

end

/-- Settles O20: the cause was NONE and a raise leaves another one, which is of the list; with H clear the field was raw. -/
theorem causesAreThoseOfTheCommand : Obligations.CausesAreThoseOfTheCommand := by
  intro i s t hs he h ht
  have hnone : s.cause = .none := hs.causeErr.2 he
  obtain ⟨_, _, _, _, hne⟩ := exec_error_entry he h ht
  refine ⟨(exec_cause hs he h).resolve_left (hnone ▸ hne), ?_⟩
  rintro rfl hhuf
  by_contra hh
  have hraw := (decstr_raw_cause he h (Bool.eq_false_iff.2 hh)).resolve_left (hnone ▸ hne)
  obtain hc | hc := hhuf <;> simp [hc] at hraw

/-- Settles O23: the test of the context comes first after that of `err`. -/
theorem wrongContextIsIllegalCommand : Obligations.WrongContextIsIllegalCommand := by
  refine fun s he => ⟨fun ho => ⟨fun n => ?_, ?_, ?_, ?_⟩, fun ho => ?_⟩
  · exact (exec_decint_of_ok he n).trans (if_pos ho)
  · exact (exec_decstr_of_ok he).trans (if_pos ho)
  · exact (exec_dechuf_of_ok he).trans (if_pos ho)
  · exact (exec_bropen_of_ok he).trans (if_pos ho)
  · have hclosed : ¬ s.isOpen = true := by simp [ho]
    exact ⟨(exec_rdsym_of_ok he).trans (if_neg hclosed), (exec_brclose_of_ok he).trans (if_neg hclosed),
      fun r hr => (exec_row_of_ok he hr).trans (if_neg hclosed)⟩

/-! ### Steps of a core and of several -/

/-- Settles O10. -/
theorem stepRunsTheDecodedCommand : Obligations.StepRunsTheDecodedCommand :=
  fun _ _ _ _ hq hd => (step_of_action hq).trans (runCommand_of_decode hd)

/-- Settles O12. -/
theorem stepCarriesOutTheHostsOldestAction : Obligations.StepCarriesOutTheHostsOldestAction :=
  fun _ => ⟨step_of_idle, fun _ _ => step_of_action⟩

/-- A step of core `k` that answers a next system: there is no such core, or its state alone is replaced, by its own step. -/
theorem stepCore_next {k : Nat} {sys sys' : System} (h : stepCore k sys = .next sys') :
    (sys[k]? = none ∧ sys' = sys) ∨ ∃ s t, sys[k]? = some s ∧ step s = .next t ∧ sys' = sys.set k t := by
  rw [stepCore] at h
  cases hk : sys[k]? with
  | none =>
    simp only [hk] at h
    cases h
    exact .inl ⟨rfl, rfl⟩
  | some s =>
    simp only [hk] at h
    cases hs : step s with
    | next t =>
      simp only [hs] at h
      cases h
      exact .inr ⟨s, t, rfl, hs, rfl⟩
    | fault f => simp [hs] at h
    | refused r => simp [hs] at h

/-- Settles O59. -/
theorem coresAreIndependent : Obligations.CoresAreIndependent := by
  intro k j sys sys' hne h
  obtain ⟨_, rfl⟩ | ⟨s, t, _, _, rfl⟩ := stepCore_next h
  · rfl
  · exact List.getElem?_set_ne hne.symm

end Sys2Proof.Machine
end

section
/-!
The family of 70_reset_and_hazards.md. A procedure completes if it ends with a value or a raise (`Proc.Completes`). Within the
invariants of the reader each does: a read of IN finds its byte, the tree bounds a readNext, and the bytes of the view bound
IntCore. A command answers a next state where its procedure completes.
-/

namespace Sys2Proof.Machine

/-- The procedure ends with a value or a raise; it does not stop. -/
def Proc.Completes {α : Type} (p : Proc α) : Prop :=
  match p with
  | .done _ _ => True
  | .raised _ _ => True
  | .fault _ => False

theorem Proc.Completes.bind {α β : Type} {p : Proc α} {k : α → State → Proc β} (hp : p.Completes)
    (hk : ∀ a t, p = .done a t → (k a t).Completes) : (p.bind k).Completes := by
  cases p with
  | done a t => exact hk a t rfl
  | raised c t => trivial
  | fault f => exact hp

/-- A command whose procedure completes answers a next state. -/
theorem Proc.Completes.commit {α : Type} {p : Proc α} (hp : p.Completes) (g : α → State → State) :
    ∃ t, p.commit g = .next t := by
  cases p with
  | done a t => exact ⟨_, rfl⟩
  | raised c t => exact ⟨_, rfl⟩
  | fault f => exact hp.elim

section
variable {s : State}

/-- The next part of a command starts within the invariants of the reader where the first part did. -/
theorem Proc.Leads.readerInv {α : Type} {p : Proc α} {a : α} {t : State} (hp : p.Leads (Reached s)) (h : s.ReaderInv)
    (ht : p = .done a t) : t.ReaderInv := by
  subst ht
  exact (Reached.safe hp h).1

/-! ### The reader -/

theorem takeBit_completes (h : s.ReaderInv) : (takeBit s).Completes := by
  cases hv : s.viewBits with
  | nil =>
    rw [takeBit_of_viewBits_nil h hv]
    trivial
  | cons b bits =>
    rw [(takeBit_of_viewBits_cons h hv).1]
    trivial

theorem endOfView_completes (s : State) : (endOfView s).Completes := by
  obtain ⟨_, h⟩ | ⟨_, h⟩ := endOfView_cases s <;> rw [h] <;> trivial

theorem descend_completes (b : Bool) (s : State) : (descend b s).Completes := by
  obtain ⟨_, _, h⟩ | ⟨_, h⟩ | ⟨_, _, _, h⟩ := descend_cases b s <;> rw [h] <;> trivial

theorem bitStep_completes (h : s.ReaderInv) : (bitStep s).Completes :=
  (takeBit_completes h).bind fun bit t _ => by
    cases bit with
    | none => exact endOfView_completes t
    | some b => exact descend_completes b t

theorem codeStep_completes (c : Bool) (h : s.ReaderInv) : (codeStep c s).Completes :=
  (takeBit_completes h).bind fun bit t _ => by
    cases bit with
    | none => exact endOfView_completes t
    | some _ => exact descend_completes c t

/-- Within the invariants no micro-step finds a byte of its view missing, so only the bound can stop them. -/
theorem bitLoop_ne_missing (n : Nat) (h : s.ReaderInv) (ho : s.isOpen = true) :
    bitLoop n s ≠ .fault .noSuchInputByte := by
  induction n generalizing s with
  | zero => simp [bitLoop]
  | succ n ih =>
    intro hloop
    obtain ⟨r, t, ht, hr⟩ | ⟨_, _, _, hr⟩ | ⟨f, hf, _⟩ := Proc.bind_cases hloop
    · cases r with
      | goOn => exact ih ((bitStep_leads ho).readerInv h ht) (((bitStep_readerOnly s).done_isOpen ht).trans ho) hr
      | symbol v => cases hr
      | atEnd => cases hr
    · cases hr
    · have hstep := bitStep_completes h
      rw [hf] at hstep
      exact hstep

/-- readNext completes: IN has its bytes, and its bound of micro-steps is not met (R142, R149). -/
theorem readNext_completes (h : s.ReaderInv) (ho : s.isOpen = true) : (readNext s).Completes := by
  cases hr : readNext s with
  | done r t => trivial
  | raised c t => trivial
  | fault f =>
    cases f with
    | noSuchInputByte => exact bitLoop_ne_missing _ h ho hr
    | bitStepBound => exact readNextStaysWithinItsBound s hr

theorem walkCode_completes (code : List Bool) (h : s.ReaderInv) (ho : s.isOpen = true) :
    (walkCode code s).Completes := by
  induction code generalizing s with
  | nil => exact readNext_completes h ho
  | cons c cs ih =>
    refine (codeStep_completes c h).bind fun r t ht => ?_
    cases r with
    | goOn => exact ih ((codeStep_leads c ho).readerInv h ht) (((codeStep_readerOnly c s).done_isOpen ht).trans ho)
    | symbol v => trivial
    | atEnd => trivial

/-! ### The integer -/

/-- A byte of the view is consumed inside the view. -/
theorem State.ViewOk.advance_one (hv : s.ViewOk) (hlt : s.pos.toNat < s.lim.toNat) : (s.advance 1).ViewOk :=
  ⟨hv.memWf, (State.advance_pos_toNat hlt).trans_le hlt, hv.limLen⟩

/-- The loop of IntCore completes when its fuel covers the view: each byte it reads is one of the view (R181). -/
theorem intLoop_completes {fuel : Nat} (acc shift count : Nat) (hv : s.ViewOk) (hfuel : s.bytesLeft ≤ fuel) :
    (intLoop fuel acc shift count s).Completes := by
  induction fuel generalizing acc shift count s with
  | zero =>
    rw [intLoop_at_end _ _ _ _ (if_pos (hv.pos_eq_lim (Nat.le_zero.1 hfuel)))]
    trivial
  | succ fuel ih =>
    obtain ⟨_, hp⟩ | ⟨b, hlt, _, hp⟩ := State.peek_cases hv.posLim hv.limLen
    · rw [intLoop_at_end _ _ _ _ hp]
      trivial
    · have hleft : (s.advance 1).bytesLeft ≤ fuel := by
        rw [State.bytesLeft] at hfuel
        rw [State.bytesLeft, State.advance_pos_toNat hlt, State.advance_lim]
        omega
      rw [intLoop, hp]
      dsimp only
      split
      · trivial
      · split
        · exact ih _ _ _ (hv.advance_one hlt) hleft
        · trivial

theorem intCore_completes (n : Nat) (hv : s.ViewOk) : (intCore n s).Completes := by
  obtain ⟨_, hp⟩ | ⟨b, hlt, _, hp⟩ := State.peek_cases hv.posLim hv.limLen <;> rw [intCore, hp]
  · trivial
  · dsimp only
    split
    · trivial
    · exact intLoop_completes _ _ _ (hv.advance_one hlt) (Nat.sub_le_sub_right hv.limLen _)

/-! ### The string -/

/-- Every Huffman body is too long for the view, valid, or rejected. -/
theorem hufBody_completes (len : Nat) (h : s.ReaderInv) (ho : s.isOpen = false) : (hufBody len s).Completes := by
  obtain hl | hl := Nat.lt_or_ge s.bytesLeft len
  · rw [hufBody_of_long hl]
    trivial
  · by_cases hvalid : ∃ str k, k ≤ 7 ∧ s.bodyBits len = stringBits str ++ List.replicate k true
    · obtain ⟨str, k, hk, hb⟩ := hvalid
      rw [hufBody_of_valid h ho hl hk hb]
      trivial
    · obtain ⟨c, u, hu, _⟩ := hufBody_rejects h hl fun str k hk hb => hvalid ⟨str, k, hk, hb⟩
      rw [hu]
      trivial

theorem rawBody_completes (len : Nat) (hv : s.ViewOk) : (rawBody len s).Completes := by
  obtain hl | hl := Nat.lt_or_ge s.bytesLeft len
  · rw [rawBody_of_long hl]
    trivial
  · rw [rawBody_of_inView hv hl]
    trivial

theorem stringField_completes (b : Byte) (h : s.ReaderInv) (ho : s.isOpen = false) : (stringField b s).Completes := by
  refine (intCore_completes _ h.view).bind fun r t ht => ?_
  have hinv : t.ReaderInv := (intCore_leads _ ho).readerInv h ht
  refine Proc.Completes.bind ?_ fun _ _ _ => trivial
  split
  · exact hufBody_completes r.1 hinv (((intCore_posOnly _ s).done_isOpen ht).trans ho)
  · exact rawBody_completes r.1 hinv.view

theorem openContext_completes (len : Nat) (s : State) : (openContext len s).Completes := by
  obtain ⟨_, h⟩ | ⟨_, h⟩ := openContext_cases len s <;> rw [h] <;> trivial

/-! ### The commands -/

/-- A test of a command (R206) answers a next state when the command does so on either side of it. -/
theorem exists_next_of_test {b : Bool} {o o' : Host.Outcome State Fault Refusal} (ho : b = true → ∃ t, o = .next t)
    (ho' : b = false → ∃ t, o' = .next t) : ∃ t, (if b then o else o') = .next t := by
  cases b with
  | true => exact ho rfl
  | false => exact ho' rfl

theorem exec_decstr_completes (h : s.ReaderInv) (he : s.err = false) (ho : s.isOpen = false) :
    ∃ t, exec .decstr s = .next t := by
  obtain ⟨_, hp⟩ | ⟨b, _, _, hp⟩ := State.peek_cases h.view.posLim h.view.limLen
  · exact ⟨_, exec_decstr_of_end he ho hp⟩
  · rw [exec_decstr_of_byte he ho hp]
    exact (stringField_completes b (s := s.clearOut.setH (huffmanFlag b)) h.withOthers ho).commit _

/-- While `err = 0` each instruction answers in the wrong context at once, and otherwise as its procedure completes. -/
theorem exec_completes (i : Instr) (h : s.ReaderInv) (he : s.err = false) : ∃ t, exec i s = .next t := by
  obtain ⟨n, rfl⟩ | rfl | rfl | rfl | rfl | rfl | ⟨r, hr, rfl⟩ := instr_cases i
  · rw [exec_decint_of_ok he]
    refine exists_next_of_test (fun _ => ⟨_, rfl⟩) fun _ => ?_
    exact exists_next_of_test (fun _ => (intCore_completes n h.view).commit _) fun _ => ⟨_, rfl⟩
  · cases ho : s.isOpen with
    | true => exact ⟨_, (exec_decstr_of_ok he).trans (if_pos ho)⟩
    | false => exact exec_decstr_completes h he ho
  · rw [exec_dechuf_of_ok he]
    exact exists_next_of_test (fun _ => ⟨_, rfl⟩) fun ho =>
      (hufBody_completes _ (s := s.clearOut) h.withOthers ho).commit _
  · rw [exec_bropen_of_ok he]
    exact exists_next_of_test (fun _ => ⟨_, rfl⟩) fun _ => (openContext_completes _ s).commit _
  · rw [exec_rdsym_of_ok he]
    exact exists_next_of_test (fun ho => (readNext_completes h ho).commit _) fun _ => ⟨_, rfl⟩
  · rw [exec_brclose_of_ok he]
    exact exists_next_of_test (fun _ => ⟨_, rfl⟩) fun _ => ⟨_, rfl⟩
  · rw [exec_row_of_ok he hr]
    exact exists_next_of_test (fun ho => (walkCode_completes r.bits h ho).commit _) fun _ => ⟨_, rfl⟩

end

/-- Settles O57: an instruction is refused while `err = 1`, and completes within the invariants of the reader otherwise. -/
theorem everyInstructionCompletes : Obligations.EveryInstructionCompletes := by
  intro i s hs
  cases he : s.err with
  | true => exact ⟨_, exec_of_err he i⟩
  | false => exact exec_completes i hs.readerInv he

end Sys2Proof.Machine
end
